-- ==== Sys2Proof/Word.lean ====
section
/-! DEFINITION. The plain units of the part: bytes and 16-bit words as the frames carry them, and the clock's unit.
Strokes, lifts, loads, outputs and times are quantities, not words (1.6 Units), so they are `Int` and `Nat`. -/

namespace Sys2Proof

/-- One byte of a frame or of the option block, one character on the lift bus (R170, R196). -/
abbrev Byte := BitVec 8

/-- A 16-bit value: a digest or a CRC (R192, R200). -/
abbrev Word16 := BitVec 16

/-- A moment or a duration in microseconds, one bit time of the lift bus: a time is held to the resolution of one bit
time, 1 µs (R54). -/
abbrev Time := Nat

end Sys2Proof
end

