-- ==== Sys2Proof/Syntax.lean ====
section
/-! DEFINITION. The commands: one constructor of `Instr` per row of spec/opcode_table.json, with the row's operands.

A command is an event of the part. An event that comes from OUTSIDE (a reset source, an input that has passed its filter,
a frame, a start bit) carries the `moment` at which it comes. An event that is the end of one of the part's OWN timers
carries no moment: it is taken when that timer ends (log entry 2). -/

namespace Sys2Proof

/-- The three sources of a reset (R185), and the three start causes (R186). -/
inductive ResetSource where
  | powerOn
  | brownOut
  | resetPin
  deriving DecidableEq, Repr

/-- The three keys of the pendant (1.5, R126). -/
inductive Key where
  | raise
  | lower
  | reset
  deriving DecidableEq, Repr

/-- The two positions of the mode switch (R126). -/
inductive Mode where
  | groupMode
  | localMode
  deriving DecidableEq, Repr

/-- The two e-stop channels (R129). -/
inductive Channel where
  | a
  | b
  deriving DecidableEq, Repr

/-- The three jack switches (R47). -/
inductive JackSwitch where
  | upperEnd
  | lowerEnd
  | overtravel
  deriving DecidableEq, Repr

/-- The three places of the transmit queue (R174). -/
inductive Place where
  | report
  | motion
  | clear
  deriving DecidableEq, Repr

/-- Why the receiver discards a frame (R172): a kind that is neither 1 nor 2, a station number that is 0 or above 24, an
idle of more than 12 bit times between two characters, a framing error, or a CRC that does not match. A framing error is a
stop bit read at the drive level, at which the line may be `held` for further bit times (R170, log entry 12). -/
inductive DiscardReason where
  | badKind
  | badStation
  | idleGap
  | framingError (held : Time)
  | badCrc
  deriving DecidableEq, Repr

/-- The levels of the inputs at the first input sample after a reset (R31, R125): the encoder channels (true is high),
the jack switches (true is active), the mode switch, the pendant-present line (true is active) and the e-stop channels
(true is open). -/
structure InputSample where
  encoderA : Bool
  encoderB : Bool
  upperEnd : Bool
  lowerEnd : Bool
  overtravel : Bool
  mode : Mode
  pendantPresent : Bool
  estopAOpen : Bool
  estopBOpen : Bool
  deriving DecidableEq, Repr

/-- A character on the line, by its start bit, seen at `moment`. The nine bits that follow, the first in bit 0, are
`levels`, a 1 the idle level; where the last, the stop bit, is at the drive level, the line stays there for `held` more bit
times (R170, log entry 12). -/
structure LineCharacter where
  moment : Time
  levels : BitVec 9
  held : Time
  deriving DecidableEq, Repr

/-- The character at which an attempt is abandoned: its number in the frame, counted from 1, and for how many bit times
after its stop bit the line is still at the drive level, 0 where the stop bit is read at the idle level (R170, R180, log
entry 12). -/
structure BrokenCharacter where
  number : Nat
  held : Time
  deriving DecidableEq, Repr

/-- The commands of the part: the rows of the table of operations and events, in its order. -/
inductive Instr where
  /-- RESET_ONSET (R185): a reset source is asserted. -/
  | resetOnset (moment : Time) (source : ResetSource)
  /-- RESET_END (R186): the last reset source is released; `inputs` are the levels of the first input sample. -/
  | resetEnd (moment : Time) (inputs : InputSample)
  /-- HOLD_OFF_EXPIRY (R187): the hold-off ends; `straps` are the five strap inputs, bit k of weight 2^k (R189). -/
  | holdOffExpiry (straps : BitVec 5)
  /-- OPTION_READ_END (R191): the option read ends with the 280 bits of the data line in `data`, the bit clocked in first
  the most significant (R190). -/
  | optionReadEnd (data : BitVec 280)
  /-- ENCODER_EDGE (R32): an encoder sample with new channel levels `a`, `b` (true is high). -/
  | encoderEdge (moment : Time) (a b : Bool)
  /-- SAMPLE_TIMER_EXPIRY (R35). -/
  | sampleTimerExpiry
  /-- CONVERTER_READ_END (R39): the sixteen samples of the data line, sample 1 the most significant bit (R38). -/
  | converterReadEnd (reply : BitVec 16)
  /-- SWITCH_FILTER_CHANGE (R47): a jack switch's filtered state becomes `active`. -/
  | switchFilterChange (moment : Time) (switch : JackSwitch) (active : Bool)
  /-- CONTROL_TIMER_EXPIRY (R78). -/
  | controlTimerExpiry
  /-- SUPPLY_LOW_CHANGE (R194): the supply-low indication becomes `low`. -/
  | supplyLowChange (moment : Time) (low : Bool)
  /-- RELEASE_TIMER_EXPIRY (R147). -/
  | releaseTimerExpiry
  /-- SET_DELAY_EXPIRY (R148). -/
  | setDelayExpiry
  /-- KEY_PRESS (R126): a key passes its filter to PRESSED. -/
  | keyPress (moment : Time) (key : Key)
  /-- KEY_RELEASE (R126): a key passes its filter to RELEASED. -/
  | keyRelease (moment : Time) (key : Key)
  /-- MODE_CHANGE (R126): the filtered mode switch changes to `mode`. -/
  | modeChange (moment : Time) (mode : Mode)
  /-- PENDANT_PRESENT_CHANGE (R127): the filtered pendant-present line becomes `active`. -/
  | pendantPresentChange (moment : Time) (active : Bool)
  /-- KEY_UNBLOCK (R127): a blocked key has read released for 20 ms. -/
  | keyUnblock (moment : Time) (key : Key)
  /-- REFUSED_PULSE_END (R142). -/
  | refusedPulseEnd
  /-- REPEAT_TIMER_EXPIRY (R133). -/
  | repeatTimerExpiry
  /-- ESTOP_CHANNEL_CHANGE (R129): the filtered state of a channel becomes OPEN (`isOpen`) or CLOSED. -/
  | estopChannelChange (moment : Time) (channel : Channel) (isOpen : Bool)
  /-- DISCREPANCY_LATCH_SET (R130). -/
  | discrepancyLatchSet
  /-- REPORT_FRAME (R56): the characters of a report frame, start character first; `moment` is its arrival. -/
  | reportFrame (moment : Time) (chars : List Byte)
  /-- RAISE_FRAME (R136): the characters of a RAISE request frame. -/
  | raiseFrame (moment : Time) (chars : List Byte)
  /-- LOWER_FRAME (R136): the characters of a LOWER request frame. -/
  | lowerFrame (moment : Time) (chars : List Byte)
  /-- CLEAR_FRAME (R137): the characters of a CLEAR frame. -/
  | clearFrame (moment : Time) (chars : List Byte)
  /-- SLOT_WINDOW_EXPIRY (R138): the command window of a station number's slot ends. -/
  | slotWindowExpiry (station : Nat)
  /-- STALE_DEADLINE_EXPIRY (R73): the stale deadline of a station number's entry passes. -/
  | staleDeadlineExpiry (station : Nat)
  /-- CONTEST_DEADLINE_EXPIRY (R61): the contest deadline of a station number's entry passes. -/
  | contestDeadlineExpiry (station : Nat)
  /-- CLASH_HOLD_EXPIRY (R59). -/
  | clashHoldExpiry
  /-- CLEAR_GRACE_END (R122). -/
  | clearGraceEnd
  /-- PARK_TIMER_EXPIRY (R159). -/
  | parkTimerExpiry
  /-- REPORT_TIMER_EXPIRY (R176). -/
  | reportTimerExpiry
  /-- ACCESS_GAINED (R178). -/
  | accessGained
  /-- ATTEMPT_SENT (R180): every character of the attempt has been read back unchanged. -/
  | attemptSent
  /-- ATTEMPT_ABANDONED (R180, R181): the character `broken` of the attempt is read back changed or with a framing error. -/
  | attemptAbandoned (broken : BrokenCharacter)
  /-- TOKEN_TIMEOUT (R182): the waiting token of a place has waited 10 ms. -/
  | tokenTimeout (place : Place)
  /-- START_BIT_SEEN (R178): the start bit of `seen` is seen on the lift bus. -/
  | startBitSeen (seen : LineCharacter)
  /-- RECEIVED_FRAME_DISCARDED (R172): the receiver discards a frame. -/
  | receivedFrameDiscarded (moment : Time) (reason : DiscardReason)
  /-- REQUEST_FRAME_OTHER_CODE (R136): the characters of a request frame whose code is not RAISE, LOWER or CLEAR. -/
  | requestFrameOtherCode (moment : Time) (chars : List Byte)
  deriving DecidableEq, Repr

end Sys2Proof
end

