-- ==== Sys2Proof/WellFormed.lean ====
section
/-! DEFINITION. Which commands are well formed: station numbers 1..24 (R52, R136), frames of their kind's length (R171,
R198), request frames of the code the command names (R198), and an abandoned attempt's character within the longest frame
(R170). -/

namespace Sys2Proof

/-- A station number 1..24 (R52). -/
def isStationNumber (n : Nat) : Bool := decide (1 ≤ n ∧ n ≤ 24)

/-- The characters of a request frame: seven of them, and a code, in byte 4, that passes a test (R171, R198). -/
def isRequestWith (chars : List Byte) (code : Byte → Bool) : Bool := chars.length == 7 && code (chars.getD 4 0#8)

/-- Whether a command is well formed. -/
def Instr.wellFormed : Instr → Bool
  | .resetOnset _ _ => true
  | .resetEnd _ _ => true
  | .holdOffExpiry _ => true
  | .optionReadEnd _ => true
  | .encoderEdge _ _ _ => true
  | .sampleTimerExpiry => true
  | .converterReadEnd _ => true
  | .switchFilterChange _ _ _ => true
  | .controlTimerExpiry => true
  | .supplyLowChange _ _ => true
  | .releaseTimerExpiry => true
  | .setDelayExpiry => true
  | .keyPress _ _ => true
  | .keyRelease _ _ => true
  | .modeChange _ _ => true
  | .pendantPresentChange _ _ => true
  | .keyUnblock _ _ => true
  | .refusedPulseEnd => true
  | .repeatTimerExpiry => true
  | .estopChannelChange _ _ _ => true
  | .discrepancyLatchSet => true
  | .reportFrame _ chars => chars.length == 20
  | .raiseFrame _ chars => isRequestWith chars (· == 1#8)
  | .lowerFrame _ chars => isRequestWith chars (· == 2#8)
  | .clearFrame _ chars => isRequestWith chars (· == 3#8)
  | .slotWindowExpiry station => isStationNumber station
  | .staleDeadlineExpiry station => isStationNumber station
  | .contestDeadlineExpiry station => isStationNumber station
  | .clashHoldExpiry => true
  | .clearGraceEnd => true
  | .parkTimerExpiry => true
  | .reportTimerExpiry => true
  | .accessGained => true
  | .attemptSent => true
  | .attemptAbandoned broken => decide (1 ≤ broken.number ∧ broken.number ≤ 20)
  | .tokenTimeout _ => true
  | .startBitSeen _ => true
  | .receivedFrameDiscarded _ _ => true
  | .requestFrameOtherCode _ chars => isRequestWith chars (fun c => c != 1#8 && c != 2#8 && c != 3#8)

end Sys2Proof
end

