-- ==== Sys2Proof/Decode.lean ====
section
/-! DEFINITION. The decoder over the rows of spec/opcode_table.json that give bits. No row of this table gives any: the
commands are events of the part, not words, so no word spells one. The layouts of the frames and of the option block,
which commands carry as operands, stand in Sys2Proof/Machine/Frames.lean and Sys2Proof/Machine/Operands.lean. -/

namespace Sys2Proof

/-- The command a word spells by the table's bits: none, since no row of the table has bits. -/
def decodeTableWord (_nbits _w : Nat) : Option Instr := none

end Sys2Proof
end

