-- ==== Sys2Proof/Config.lean ====
section
/-! DEFINITION. What is fixed by one part or one installation and not by the spec: the values `State.reset` takes for
the inputs the spec samples at the end of a reset, and for the factory-set unit number (log entries 3 and 4); and the
free values, opaque, for the two moments within a converter read that the spec does not give (log entry 24). -/

namespace Sys2Proof.Config

/-- DESIGN CHOICE (log entry 4): the unit number `State.reset` carries. The spec says 1..65535, set in the factory and
not changed by a reset (R184), and no value. -/
def factoryUnitNumber : Nat := 1

/-- DESIGN CHOICE (log entry 3): the input levels `State.reset` takes as the first input sample: a quiet jack and a
quiet pendant. The spec gives each such item the level its input reads (R31, R125). -/
def quietInputs : InputSample :=
  { encoderA := false, encoderB := false, upperEnd := false, lowerEnd := false, overtravel := false,
    mode := .groupMode, pendantPresent := true, estopAOpen := false, estopBOpen := false }

/-- DESIGN CHOICE (log entry 24): a free value, for the read that ends at a moment: how many microseconds after the
assertion of the select line the first clock period of the converter port begins. R38 fits the 16 periods of 1 µs into
the 20 µs of the read, so 0..4, and says no more. -/
opaque converterLead : Time → Fin 5

/-- DESIGN CHOICE (log entry 24): a free value, for the read that ends at a moment: how many microseconds after the last
clock period of the converter port the select line is released, where the read's 20 µs leave as many (R38). -/
opaque converterTrail : Time → Fin 5

end Sys2Proof.Config
end

