-- ==== Sys2Proof/Machine/Timing.lean ====
section
/-! DEFINITION. The durations the spec fixes, in microseconds (bit times). -/

namespace Sys2Proof.Machine.Timing

/-- The hold-off, 200 ms (R187). -/
def holdOff : Time := 200000

/-- A clock period of the option port, at 250 kHz: 4 µs (R190). -/
def optionClock : Time := 4

/-- The option read: two bytes of command and address and 35 bytes of the block, 296 clock periods, 1.184 ms (R190). -/
def optionRead : Time := (2 + 35) * 8 * optionClock

/-- The period of the control timer, and its first expiry after a reset: 10 ms (R77, R78). -/
def controlPeriod : Time := 10000

/-- The period of the sample timer, 10 ms (R35). -/
def samplePeriod : Time := 10000

/-- The first expiry of the sample timer after a reset, 13 ms (R35). -/
def sampleFirst : Time := 13000

/-- A converter read, 20 µs (R38). -/
def converterRead : Time := 20

/-- A clock period of the converter port, 1 µs (R38). -/
def converterClock : Time := 1

/-- The 16 clock periods of a converter read (R38). -/
def converterClocks : Time := 16 * converterClock

/-- The brake release time is configured in units of 10 ms (R199). -/
def releaseUnit : Time := 10000

/-- The set delay of the brake, 100 ms (R148). -/
def setDelay : Time := 100000

/-- The REFUSED pulse, 500 ms (R142). -/
def refusedPulse : Time := 500000

/-- The repeat timer of a request sequence, 20 ms (R132, R133). -/
def repeatPeriod : Time := 20000

/-- The command window of a request slot, 60 ms (R138). -/
def commandWindow : Time := 60000

/-- The disagreement of the e-stop channels that sets the discrepancy latch, 50 ms (R130). -/
def discrepancy : Time := 50000

/-- The filter of the keys, the mode switch and the pendant-present line, and the time for which a blocked key reads
released, 20 ms (R126, R127). -/
def pendantFilter : Time := 20000

/-- The filter of an e-stop channel that opens, 2 ms (R129). -/
def estopOpening : Time := 2000

/-- The filter of an e-stop channel that closes, 20 ms (R129). -/
def estopClosing : Time := 20000

/-- The filter of a jack switch, 5 ms (R47). -/
def switchFilter : Time := 5000

/-- The filter of the drive-supply-low input, 50 ms (R194). -/
def supplyFilter : Time := 50000

/-- A contest lasts 1500 ms after the last duplicate (R61). -/
def contest : Time := 1500000

/-- The number-clash indication is held 1500 ms after the last clash frame (R59). -/
def clashHold : Time := 1500000

/-- The clear grace, 60 ms (R122). -/
def clearGrace : Time := 60000

/-- The park delay is configured in seconds (R157, R199). -/
def parkUnit : Time := 1000000

/-- The FAST report interval, 20 ms (R176). -/
def fastInterval : Time := 20000

/-- The SLOW report interval, 500 ms (R176). -/
def slowInterval : Time := 500000

/-- A waiting token's limit, 10 ms from its entry (R182). -/
def tokenLimit : Time := 10000

/-- One character on the line, ten bit times (R170). -/
def character : Time := 10

/-- The idle that comes before a frame start, 12 bit times (R171). -/
def frameIdle : Time := 12

/-- A member's age is capped at 100 ms (R81); in milliseconds. -/
def ageCapMs : Nat := 100

end Sys2Proof.Machine.Timing
end

