-- ==== Sys2Proof/Machine/State.lean ====
section
/-! DEFINITION. The state of the part, block by block (1.3), as plain data, and `State.reset`.

A timer is `Option Time`: `none` is stopped, `some t` runs and ends at the moment `t`. -/

namespace Sys2Proof.Machine

/-! ## Names the blocks share -/

/-- The twelve station states (R1). -/
inductive StationState where
  | start
  | configFault
  | assembling
  | ready
  | jog
  | seating
  | holding
  | lifting
  | lowering
  | parked
  | unseating
  | halted
  deriving DecidableEq, Repr

/-- The direction of a moving state, of the engine's output and of the drive's direction line (R2, R77, R143). -/
inductive Direction where
  | up
  | down
  deriving DecidableEq, Repr

/-- The period class of a report: FAST 20 ms, SLOW 500 ms (R53). -/
inductive PeriodClass where
  | fast
  | slow
  deriving DecidableEq, Repr

/-- The seventeen causes, in the order of their codes (R104). -/
inductive Cause where
  | estop
  | overtravel
  | overload
  | sensor
  | supplyLow
  | creep
  | stall
  | unseat
  | spreadSet
  | spreadBody
  | peerLost
  | peerRestart
  | duplicate
  | babble
  | configMismatch
  | busBlocked
  | peerHalted
  deriving DecidableEq, Repr

/-- The three classes of causes (R104). -/
inductive CauseClass where
  | safety
  | motion
  | group
  deriving DecidableEq, Repr

/-- The kind of a motion request (R132, R136). -/
inductive RequestKind where
  | raise
  | lower
  deriving DecidableEq, Repr

/-- The group command (R140). -/
inductive GroupCommand where
  | raise
  | lower
  | conflict
  | none
  deriving DecidableEq, Repr

/-- The supply policy (R191, R195). -/
inductive SupplyPolicy where
  | derate
  | halt
  deriving DecidableEq, Repr

/-- The brake states (R143). -/
inductive BrakeState where
  | set
  | releasing
  | released
  deriving DecidableEq, Repr

/-- The status of a peer table entry (R52). -/
inductive EntryStatus where
  | empty
  | fresh
  | stale
  deriving DecidableEq, Repr

/-- The prompt allowance of a peer table entry (R54). -/
inductive Allowance where
  | available
  | spent
  deriving DecidableEq, Repr

/-- The receiver: waiting for 12 bit times of idle, or taking a frame (R173). -/
inductive Receiver where
  | waitingForIdle
  | takingFrame
  deriving DecidableEq, Repr

/-! ## The start unit -/

/-- The values of a validated option block (R191, R199), in the block's order. -/
structure Options where
  n : Nat
  window : Nat
  spreadBody : Nat
  spreadSet : Nat
  vRaise : Nat
  vLower : Nat
  dMin : Nat
  ramp : Nat
  seatSpeed : Nat
  parkDelay : Nat
  policy : SupplyPolicy
  creepLimit : Nat
  unseatLift : Nat
  bodyIndex : Nat
  fullScale : Nat
  zero : Nat
  contactThreshold : Nat
  releaseThreshold : Nat
  overloadLimit : Nat
  brakeReleaseTime : Nat
  deriving DecidableEq, Repr

/-- The start unit (R184). `resetHeld` and the three `…Seen` flags say whether a reset is held and which sources were
asserted during it (R185, R186). `strapReading` is the reading taken at the end of the hold-off (R189), kept until the
read's end makes the station number present (R192, R193). `supplyFilterFrom` is the moment from which the supply-low
filter times its input. -/
structure StartUnit where
  resetHeld : Bool
  powerOnSeen : Bool
  brownOutSeen : Bool
  resetPinSeen : Bool
  startCause : ResetSource
  holdOff : Option Time
  optionRead : Option Time
  strapReading : Option Nat
  stationNumber : Option Nat
  unitNumber : Nat
  config : Option Options
  digest : Option Word16
  supplyFilterFrom : Option Time
  supplyLow : Bool
  deriving DecidableEq, Repr

/-! ## The measurement unit -/

/-- A confirmation counter: 5 down to 0, running or stopped (R31, R42). -/
structure Counter where
  value : Nat
  running : Bool
  deriving DecidableEq, Repr

/-- The measurement unit (R31). The ring holds eleven stroke samples, oldest first. `converterRead` is the read in
progress, by the moment it ends (R38). `upperEndFrom` and the two beside it are the moments from which the switch filters
time their inputs (R47, log entry 11). -/
structure Measurement where
  stroke : Int
  encoderA : Bool
  encoderB : Bool
  ring : Vector Int 11
  ringFilled : Bool
  velocity : Int
  latchedStroke : Int
  load : Nat
  missCount : Nat
  silent : Bool
  contact : Counter
  release : Counter
  unseat : Counter
  overloadCount : Nat
  overload : Bool
  upperEnd : Bool
  lowerEnd : Bool
  overtravel : Bool
  upperEndFrom : Option Time
  lowerEndFrom : Option Time
  overtravelFrom : Option Time
  sampleTimer : Option Time
  converterRead : Option Time
  deriving DecidableEq, Repr

/-! ## The peer table -/

/-- The parts of the last report accepted that an entry keeps (R53). First cause and origin are present together. -/
structure Content where
  unitNumber : Nat
  state : StationState
  period : PeriodClass
  fresh : Bool
  bodyIndex : Nat
  digest : Word16
  lift : Option Nat
  velocity : Int
  firstCause : Option (Cause × Nat)
  deriving DecidableEq, Repr

/-- An entry of the peer table: its content, absent while EMPTY (R52), and its bookkeeping (R54). -/
structure Entry where
  status : EntryStatus
  content : Option Content
  lastArrival : Option Time
  lastScheduled : Option Time
  staleDeadline : Option Time
  member : Bool
  early : Bool
  allowance : Allowance
  faulty : Bool
  contested : Bool
  contestDeadline : Option Time
  deriving DecidableEq, Repr

/-- The peer table: 24 entries, that of station number n at index n - 1 (R52), and the number-clash indication, held
while its hold deadline runs (R55, R59). -/
structure PeerTable where
  entries : Vector Entry 24
  clashHold : Option Time
  deriving DecidableEq, Repr

/-! ## The synchronisation engine -/

/-- The synchronisation engine (R77). -/
structure Engine where
  controlTimer : Option Time
  commanded : Nat
  direction : Direction
  lastCeiling : Nat
  deriving DecidableEq, Repr

/-! ## The drive unit -/

/-- The drive unit (R143). `commandedCopy` is the commanded output as last handed over. -/
structure Drive where
  brake : BrakeState
  releaseTimer : Option Time
  setDelay : Option Time
  commandedCopy : Nat
  applied : Nat
  direction : Direction
  stall : Nat
  creepReference : Int
  extreme : Option Int
  deriving DecidableEq, Repr

/-! ## The request unit -/

/-- A key: its filtered state, its key block (R125, R127), and the moment from which its filter times the input (R126,
log entry 11). -/
structure KeyInput where
  pressed : Bool
  blocked : Bool
  filterFrom : Option Time
  deriving DecidableEq, Repr

/-- A request sequence: its kind and its repeat timer's end (R132, R133). -/
structure Sequence where
  kind : RequestKind
  repeatAt : Time
  deriving DecidableEq, Repr

/-- A filled request slot: a kind and the moment the request was taken (R136). -/
structure Slot where
  kind : RequestKind
  stamp : Time
  deriving DecidableEq, Repr

/-- The request unit (R125). `discrepancySince` is the moment from which the discrepancy timer runs. The slot of station
number n is at index n - 1. The REFUSED lamp is lit while `refusedLamp` holds the pulse's end. `modeFrom`, `pendantFrom`,
`estopAFrom` and `estopBFrom` are the moments from which these filters time their inputs (R126, R127, R129, log entry
11). -/
structure RequestUnit where
  raiseKey : KeyInput
  lowerKey : KeyInput
  resetKey : KeyInput
  mode : Mode
  pendantPresent : Bool
  estopAOpen : Bool
  estopBOpen : Bool
  modeFrom : Option Time
  pendantFrom : Option Time
  estopAFrom : Option Time
  estopBFrom : Option Time
  discrepancySince : Option Time
  discrepancyLatch : Bool
  sequence : Option Sequence
  slots : Vector (Option Slot) 24
  refusedLamp : Option Time
  deriving DecidableEq, Repr

/-! ## The state controller -/

/-- The state controller's context (R3). The member marks stand in the peer table's entries. `jogDirection` is the
direction of the jog, fixed for its life (R2, R18). -/
structure Controller where
  state : StationState
  jogDirection : Direction
  assembled : Bool
  contact : Option Int
  fresh : Bool
  parkTimer : Option Time
  readyLamp : Bool
  deriving DecidableEq, Repr

/-! ## The halt unit -/

/-- The first cause with its origin, present together (R103, R116). -/
structure FirstCause where
  cause : Cause
  origin : Nat
  deriving DecidableEq, Repr

/-- The halt unit (R103). The cause set is a list in rising order of the codes, no cause twice. -/
structure HaltUnit where
  causes : List Cause
  first : Option FirstCause
  grace : Option Time
  faultLamp : Bool
  deriving DecidableEq, Repr

/-! ## The bus interface -/

/-- A report token (R173). -/
structure ReportToken where
  prompt : Bool
  entered : Time
  attempts : Nat
  deriving DecidableEq, Repr

/-- A motion request token (R173). -/
structure MotionToken where
  kind : RequestKind
  entered : Time
  attempts : Nat
  deriving DecidableEq, Repr

/-- A clear token (R173). -/
structure ClearToken where
  entered : Time
  attempts : Nat
  deriving DecidableEq, Repr

/-- A pending report request (R174). `restart` says that the restart of the report timer at an entry to PARKED or a
leaving of it follows its judgement (R160, R177). -/
structure PendingReport where
  prompt : Bool
  restart : Bool
  deriving DecidableEq, Repr

/-- The running report timer: its next expiry and the interval it was set at (R176). -/
structure ReportTimer where
  due : Time
  interval : PeriodClass
  deriving DecidableEq, Repr

/-- A send attempt in progress: the place of its token, the moment it began, and the frame taken at its beginning
(R179). -/
structure Attempt where
  place : Place
  began : Time
  frame : List Byte
  deriving DecidableEq, Repr

/-- The bus interface (R173). `accessWait` is the moment from which the access wait counts, `idleFrom` the end of the
last stop bit known on the line, from which the line is idle (R170). -/
structure Bus where
  report : Option ReportToken
  motion : Option MotionToken
  clear : Option ClearToken
  pendingReport : Option PendingReport
  pendingMotion : Option RequestKind
  reportTimer : Option ReportTimer
  promptSpent : Bool
  accessWait : Option Time
  retryOffset : Nat
  attempt : Option Attempt
  receiver : Receiver
  idleFrom : Time
  deriving DecidableEq, Repr

/-! ## The whole part -/

/-- The state: the nine blocks of 1.3, the clock, and the queue of waiting commands, first in, first out. -/
structure State where
  now : Time
  start : StartUnit
  meas : Measurement
  peers : PeerTable
  engine : Engine
  drive : Drive
  request : RequestUnit
  ctrl : Controller
  halt : HaltUnit
  bus : Bus
  pending : List Instr
  deriving DecidableEq, Repr

/-- The reasons a step can stop with a fault. There is none: the spec gives every command an effect in every state, and
a halt of the part is a state of it (R28). -/
inductive Fault
  deriving DecidableEq, Repr

/-- The reasons a step can be refused. -/
inductive Refusal where
  /-- Raised by `exec` alone, for a command that has no meaning yet. Safe: nothing is claimed of it. No arm raises it. -/
  | notModelled (mnemonic : String)
  deriving DecidableEq, Repr

/-! ## Reset values -/

/-- The start unit while a reset is held (R184): nothing read, no timer running; the unit number is not changed by a
reset. -/
def StartUnit.held (unitNumber : Nat) (cause : ResetSource) : StartUnit :=
  { resetHeld := true, powerOnSeen := false, brownOutSeen := false, resetPinSeen := false, startCause := cause,
    holdOff := none, optionRead := none, strapReading := none, stationNumber := none, unitNumber := unitNumber,
    config := none, digest := none, supplyFilterFrom := none, supplyLow := false }

/-- A stopped counter at its reset value (R31). -/
def Counter.atRest : Counter := { value := 5, running := false }

/-- The measurement unit while a reset is held, with the levels last sampled (R31). -/
def Measurement.held (i : InputSample) : Measurement :=
  { stroke := 0, encoderA := i.encoderA, encoderB := i.encoderB, ring := Vector.replicate 11 0, ringFilled := false,
    velocity := 0, latchedStroke := 0, load := 0, missCount := 0, silent := false, contact := .atRest,
    release := .atRest, unseat := .atRest, overloadCount := 0, overload := false, upperEnd := i.upperEnd,
    lowerEnd := i.lowerEnd, overtravel := i.overtravel, upperEndFrom := none, lowerEndFrom := none,
    overtravelFrom := none, sampleTimer := none, converterRead := none }

/-- The filters of the jack switches start at the end of a reset (R47). -/
def Measurement.startFilters (m : Measurement) (now : Time) : Measurement :=
  { m with upperEndFrom := some now, lowerEndFrom := some now, overtravelFrom := some now }

/-- An EMPTY entry (R55). -/
def Entry.empty : Entry :=
  { status := .empty, content := none, lastArrival := none, lastScheduled := none, staleDeadline := none,
    member := false, early := false, allowance := .available, faulty := false, contested := false,
    contestDeadline := none }

/-- The peer table after a reset (R55). -/
def PeerTable.held : PeerTable := { entries := Vector.replicate 24 Entry.empty, clashHold := none }

/-- The synchronisation engine while a reset is held (R77). -/
def Engine.held : Engine := { controlTimer := none, commanded := 0, direction := .up, lastCeiling := 0 }

/-- The drive unit after a reset (R143). -/
def Drive.held : Drive :=
  { brake := .set, releaseTimer := none, setDelay := none, commandedCopy := 0, applied := 0, direction := .up,
    stall := 0, creepReference := 0, extreme := none }

/-- A key after a reset: RELEASED and blocked (R125). -/
def KeyInput.atReset : KeyInput := { pressed := false, blocked := true, filterFrom := none }

/-- The request unit while a reset is held, with the levels last sampled (R125). -/
def RequestUnit.held (i : InputSample) : RequestUnit :=
  { raiseKey := .atReset, lowerKey := .atReset, resetKey := .atReset, mode := i.mode,
    pendantPresent := i.pendantPresent, estopAOpen := i.estopAOpen, estopBOpen := i.estopBOpen,
    modeFrom := none, pendantFrom := none, estopAFrom := none, estopBFrom := none, discrepancySince := none,
    discrepancyLatch := false, sequence := none, slots := Vector.replicate 24 none, refusedLamp := none }

/-- The filters of the pendant's inputs start at the end of a reset (R125 to R129). -/
def RequestUnit.startFilters (r : RequestUnit) (now : Time) : RequestUnit :=
  { r with
    raiseKey := { r.raiseKey with filterFrom := some now }
    lowerKey := { r.lowerKey with filterFrom := some now }
    resetKey := { r.resetKey with filterFrom := some now }
    modeFrom := some now
    pendantFrom := some now
    estopAFrom := some now
    estopBFrom := some now }

/-- The state controller after a reset (R3). The jog direction has no meaning outside JOG; the model keeps UP there. -/
def Controller.held : Controller :=
  { state := .start, jogDirection := .up, assembled := false, contact := none, fresh := true, parkTimer := none,
    readyLamp := false }

/-- The halt unit after a reset (R103). -/
def HaltUnit.held : HaltUnit := { causes := [], first := none, grace := none, faultLamp := false }

/-- The bus interface after a reset (R173); the line is released at `idleFrom`. -/
def Bus.held (idleFrom : Time) : Bus :=
  { report := none, motion := none, clear := none, pendingReport := none, pendingMotion := none, reportTimer := none,
    promptSpent := false, accessWait := none, retryOffset := 0, attempt := none, receiver := .waitingForIdle,
    idleFrom := idleFrom }

/-- The machine right after reset: the moment a POWER_ON reset ends, when the hold-off begins (10.7), with the clock at
0. The inputs are sampled quiet (log entry 3), the unit number is the model's (log entry 4), and the start cause is
POWER_ON (log entry 5). -/
def State.reset : State :=
  { now := 0
    start := { StartUnit.held Config.factoryUnitNumber .powerOn with
      resetHeld := false, powerOnSeen := true, holdOff := some Timing.holdOff, supplyFilterFrom := some 0 }
    meas := { (Measurement.held Config.quietInputs).startFilters 0 with sampleTimer := some Timing.sampleFirst }
    peers := .held
    engine := { Engine.held with controlTimer := some Timing.controlPeriod }
    drive := .held
    request := (RequestUnit.held Config.quietInputs).startFilters 0
    ctrl := .held
    halt := .held
    bus := .held 0
    pending := [] }

end Sys2Proof.Machine
end

