-- ==== Sys2Proof/Machine/Flags.lean ====
section
/-! DEFINITION. What the blocks read from the state without holding it apart: the classes of states and causes, the
group command, the group predicates, the conditions of the level causes, the lift, the lamps, lines and indications. -/

namespace Sys2Proof.Machine

/-! ## Station states and their classes (R1, R2) -/

/-- The report code of a state; START has none (R1). -/
def StationState.code : StationState → Nat
  | .start => 0
  | .configFault => 1
  | .assembling => 2
  | .ready => 3
  | .jog => 4
  | .seating => 5
  | .holding => 6
  | .lifting => 7
  | .lowering => 8
  | .parked => 9
  | .unseating => 10
  | .halted => 11

/-- The state a report code stands for: codes 1..11 (R1, R57). -/
def StationState.ofCode : Nat → Option StationState
  | 1 => some .configFault
  | 2 => some .assembling
  | 3 => some .ready
  | 4 => some .jog
  | 5 => some .seating
  | 6 => some .holding
  | 7 => some .lifting
  | 8 => some .lowering
  | 9 => some .parked
  | 10 => some .unseating
  | 11 => some .halted
  | _ => none

/-- The loaded states (R2). -/
def StationState.isLoaded : StationState → Bool
  | .seating | .holding | .lifting | .lowering | .parked | .unseating => true
  | _ => false

/-- The unloaded states (R2). -/
def StationState.isUnloaded : StationState → Bool
  | .assembling | .ready | .jog => true
  | _ => false

/-- The moving states (R2). -/
def StationState.isMoving : StationState → Bool
  | .jog | .seating | .lifting | .lowering | .unseating => true
  | _ => false

/-- The states from ASSEMBLING on, HALTED included: all but START and CONFIG_FAULT (R106, R128). -/
def StationState.isOperating : StationState → Bool
  | .start | .configFault => false
  | _ => true

/-- The states in which the unseat counter runs (R46). -/
def StationState.isSeated : StationState → Bool
  | .holding | .lifting | .lowering | .parked => true
  | _ => false

/-- HOLDING, LIFTING and LOWERING, the states of a poised group (R12). -/
def StationState.isPoised : StationState → Bool
  | .holding | .lifting | .lowering => true
  | _ => false

/-- HOLDING, LOWERING and UNSEATING, the states of a landed group (R13). -/
def StationState.isLandable : StationState → Bool
  | .holding | .lowering | .unseating => true
  | _ => false

/-- The loaded states and HALTED, in which the peer table's faults are causes (R60 to R74). -/
def StationState.raisesPeerCauses (st : StationState) : Bool :=
  st.isLoaded || st == .halted

/-- The direction of a moving state (R2); that of JOG is the jog's. -/
def StationState.motion (st : StationState) (jog : Direction) : Option Direction :=
  match st with
  | .jog => some jog
  | .seating => some .up
  | .lifting => some .up
  | .lowering => some .down
  | .unseating => some .down
  | _ => none

/-- The period class a state reports and keeps its report timer at: SLOW in PARKED and CONFIG_FAULT (R176, R179). -/
def StationState.period : StationState → PeriodClass
  | .parked | .configFault => .slow
  | _ => .fast

/-- The interval a period class stands for (R53). -/
def PeriodClass.interval : PeriodClass → Time
  | .fast => Timing.fastInterval
  | .slow => Timing.slowInterval

/-! ## Causes (R104) -/

/-- The code of a cause, which is its priority, 1 the highest (R104). -/
def Cause.code : Cause → Nat
  | .estop => 1
  | .overtravel => 2
  | .overload => 3
  | .sensor => 4
  | .supplyLow => 5
  | .creep => 6
  | .stall => 7
  | .unseat => 8
  | .spreadSet => 9
  | .spreadBody => 10
  | .peerLost => 11
  | .peerRestart => 12
  | .duplicate => 13
  | .babble => 14
  | .configMismatch => 15
  | .busBlocked => 16
  | .peerHalted => 17

/-- The cause a code stands for: codes 1..17 (R104, R57). -/
def Cause.ofCode : Nat → Option Cause
  | 1 => some .estop
  | 2 => some .overtravel
  | 3 => some .overload
  | 4 => some .sensor
  | 5 => some .supplyLow
  | 6 => some .creep
  | 7 => some .stall
  | 8 => some .unseat
  | 9 => some .spreadSet
  | 10 => some .spreadBody
  | 11 => some .peerLost
  | 12 => some .peerRestart
  | 13 => some .duplicate
  | 14 => some .babble
  | 15 => some .configMismatch
  | 16 => some .busBlocked
  | 17 => some .peerHalted
  | _ => none

/-- The class of a cause (R104, R112). -/
def Cause.causeClass (c : Cause) : CauseClass :=
  if c.code ≤ 5 then .safety else if c.code ≤ 10 then .motion else .group

/-- A level cause stands for a condition that may persist: codes 1..5 (R104, R105). -/
def Cause.isLevel (c : Cause) : Bool := decide (c.code ≤ 5)

/-- A cause put into a cause set: in the order of the codes, and not twice (R103, R110). -/
def Cause.insert (c : Cause) : List Cause → List Cause
  | [] => [c]
  | d :: rest =>
    if c.code < d.code then c :: d :: rest
    else if c.code = d.code then d :: rest
    else d :: Cause.insert c rest

/-- Every cause of an event put into a cause set (R108, R110). -/
def Cause.insertAll (cs set : List Cause) : List Cause :=
  cs.foldl (fun acc c => c.insert acc) set

/-- Whether a class is in the class summary of a cause set (R112). -/
def Cause.summaryHas (k : CauseClass) (set : List Cause) : Bool :=
  set.any (fun c => c.causeClass == k)

/-! ## Tables indexed by station number (R52, R136) -/

/-- What a table holds for a station number 1..24. -/
def Table.get {α : Type} (t : Vector α 24) (station : Nat) : Option α :=
  if h : 1 ≤ station ∧ station ≤ 24 then some (t[station - 1]'(by omega)) else none

/-- A table with a station number's slot replaced; a number outside 1..24 has no slot. -/
def Table.put {α : Type} (t : Vector α 24) (station : Nat) (x : α) : Vector α 24 :=
  if h : 1 ≤ station ∧ station ≤ 24 then t.set (station - 1) x (by omega) else t

/-- A function applied to every slot of a table. -/
def Table.map {α β : Type} (f : α → β) (t : Vector α 24) : Vector β 24 :=
  ⟨⟨t.toList.map f⟩, by simp⟩

/-! ## The group command (R140) -/

/-- Whether a slot holds a request of a kind. -/
def Slot.holds (k : RequestKind) : Option Slot → Bool
  | some x => x.kind == k
  | none => false

/-- The group command formed from a request table (R140). -/
def Slot.command (slots : Vector (Option Slot) 24) : GroupCommand :=
  match slots.toList.any (Slot.holds .raise), slots.toList.any (Slot.holds .lower) with
  | true, true => .conflict
  | true, false => .raise
  | false, true => .lower
  | false, false => .none

/-- The station's group command (R140). -/
def State.command (s : State) : GroupCommand := Slot.command s.request.slots

/-! ## Lift (R37) -/

/-- The stroke less the contact stroke, without the clamp (R37). -/
def State.unclampedLift (s : State) : Option Int :=
  s.ctrl.contact.map (fun c => s.meas.stroke - c)

/-- The lift's clamp to 0..200000 (R37). -/
def clampLift (x : Int) : Nat := min x.toNat 200000

/-- The own lift, present with the contact record (R37). -/
def State.ownLift (s : State) : Option Nat := s.unclampedLift.map clampLift

/-! ## The e-stop and the conditions of the level causes (R105, R131) -/

/-- The e-stop condition: either channel OPEN, or the discrepancy latch set (R131). -/
def RequestUnit.estopCondition (r : RequestUnit) : Bool :=
  r.estopAOpen || r.estopBOpen || r.discrepancyLatch

/-- Whether the supply policy in force is the given one; none is in force without a configuration (R195). -/
def StartUnit.policyIs (u : StartUnit) (p : SupplyPolicy) : Bool :=
  match u.config with
  | some o => o.policy == p
  | none => false

/-- Whether the condition of a level cause is present, as the owning block holds it (R105); an edge cause has none. -/
def State.conditionPresent (s : State) : Cause → Bool
  | .estop => s.request.estopCondition
  | .overtravel => s.meas.overtravel
  | .overload => s.meas.overload
  | .sensor => s.meas.silent
  | .supplyLow => s.start.supplyLow && s.start.policyIs .halt
  | _ => false

/-! ## Group predicates (R9 to R13) -/

/-- Whether the entry's content carries the station's own digest (R9, R11). -/
def Entry.digestIs (e : Entry) (own : Option Word16) : Bool :=
  match e.content with
  | some c => decide (own = some c.digest)
  | none => false

/-- The latest reported state of the entry satisfies a test. -/
def Entry.reports (e : Entry) (p : StationState → Bool) : Bool :=
  match e.content with
  | some c => p c.state
  | none => false

/-- The reported states in which an entry can be eligible (R9). -/
def StationState.isUnassembled : StationState → Bool
  | .assembling | .ready | .jog => true
  | _ => false

/-- FRESH, not faulty, not contested, and carrying the own digest (R9, R11). -/
def Entry.sound (e : Entry) (own : Option Word16) : Bool :=
  e.status == .fresh && !e.faulty && !e.contested && e.digestIs own

/-- An entry is eligible when it is sound and reports ASSEMBLING, READY or JOG (R9). -/
def Entry.eligible (e : Entry) (own : Option Word16) : Bool :=
  e.sound own && e.reports StationState.isUnassembled

/-- The number of eligible entries (R10). -/
def State.eligibleCount (s : State) : Nat :=
  s.peers.entries.toList.countP (fun e => e.eligible s.start.digest)

/-- Whether the number-clash indication is held (R59). -/
def PeerTable.clashHeld (p : PeerTable) : Bool := p.clashHold.isSome

/-- The group is assembled: no clash held, and exactly N - 1 eligible entries (R10). -/
def State.groupAssembled (s : State) : Bool :=
  match s.start.config with
  | some o => !s.peers.clashHeld && decide (s.eligibleCount = o.n - 1)
  | none => false

/-- The SURPLUS indication: flag clear, state ASSEMBLING or JOG, more than N - 1 eligible entries (R10). -/
def State.surplus (s : State) : Bool :=
  match s.start.config with
  | some o =>
    !s.ctrl.assembled && (s.ctrl.state == .assembling || s.ctrl.state == .jog)
      && decide (o.n - 1 < s.eligibleCount)
  | none => false

/-- The assembly holds: no clash held, and every member entry sound (R11). -/
def State.assemblyHolds (s : State) : Bool :=
  !s.peers.clashHeld && s.peers.entries.toList.all (fun e => !e.member || e.sound s.start.digest)

/-- The group is poised (R12). -/
def State.poised (s : State) : Bool :=
  s.ctrl.state.isPoised && s.peers.entries.toList.all (fun e => !e.member || e.reports StationState.isPoised)

/-- A member entry reports HOLDING, LOWERING or UNSEATING with its lift present and 0 (R13). -/
def Entry.landed (e : Entry) : Bool :=
  match e.content with
  | some c => c.state.isLandable && c.lift == some 0
  | none => false

/-- The group is landed (R13). -/
def State.landed (s : State) : Bool :=
  s.ctrl.state.isLandable && s.ownLift == some 0 && s.peers.entries.toList.all (fun e => !e.member || e.landed)

/-- The number of entries that carry the member mark (R7). -/
def PeerTable.memberCount (p : PeerTable) : Nat := p.entries.toList.countP Entry.member

/-! ## Lamps, lines and indications -/

/-- What the READY lamp shows: lit while the assembled flag is set and the state is not HALTED (R8). -/
def Controller.readyLampLit (c : Controller) : Bool := c.assembled && c.state != .halted

/-- What the FAULT lamp shows: lit in HALTED and CONFIG_FAULT (R117). -/
def StationState.faultLampLit (st : StationState) : Bool := st == .halted || st == .configFault

/-- The REFUSED lamp is lit while a pulse runs (R142). -/
def RequestUnit.refusedLit (r : RequestUnit) : Bool := r.refusedLamp.isSome

/-- The enable line: asserted while the brake is RELEASING or RELEASED (R144). -/
def Drive.enableLine (d : Drive) : Bool := d.brake != .set

/-- The brake release line: asserted while the brake is RELEASING or RELEASED (R144). -/
def Drive.releaseLine (d : Drive) : Bool := d.brake != .set

/-- The demand line: the applied output (R144). -/
def Drive.demandLine (d : Drive) : Nat := d.applied

/-- The direction line: the direction output (R144). -/
def Drive.directionLine (d : Drive) : Direction := d.direction

/-- The number-clash-or-surplus indication of a report (R10, R59). -/
def State.clashOrSurplus (s : State) : Bool := s.peers.clashHeld || s.surplus

/-- The conflict indication of a report (R141). -/
def State.conflictIndication (s : State) : Bool := s.command == .conflict

end Sys2Proof.Machine
end

