-- ==== Sys2Proof/Machine/Frames.lean ====
section
/-! DEFINITION. The CRC-16, the layouts of the report frame and the request frame, and the receiver's checks
(chapters 9 and 12). -/

namespace Sys2Proof.Machine

/-! ## The CRC-16 (R200) -/

/-- One shift of the CRC register: a 1 shifted out combines it with 1021h (R200). -/
def crcShift (r : Word16) : Word16 :=
  if r.msb then (r <<< 1) ^^^ 0x1021#16 else r <<< 1

/-- One byte taken into the CRC register, most significant bit first (R200). -/
def crcByte (r : Word16) (b : Byte) : Word16 :=
  crcShift (crcShift (crcShift (crcShift (crcShift (crcShift (crcShift (crcShift (r ^^^ (b ++ 0#8)))))))))

/-- The CRC-16 over bytes in turn, from FFFFh (R200). -/
def crc16 (bytes : List Byte) : Word16 := bytes.foldl crcByte 0xFFFF#16

/-- The most significant byte of a 16-bit value (R196). -/
def highByte (w : Word16) : Byte := w.extractLsb' 8 8

/-- The least significant byte of a 16-bit value (R196). -/
def lowByte (w : Word16) : Byte := w.extractLsb' 0 8

/-- The start character, A5h (R171). -/
def startCharacter : Byte := 0xA5#8

/-! ## Levels and characters of the line (R170) -/

/-- The two levels of the line (R170). -/
inductive Level where
  | idle
  | drive
  deriving DecidableEq, Repr

/-- The level of a bit: a 0 at the drive level, a 1 at the idle level (R170). -/
def Level.ofBit (b : Bool) : Level := if b then .idle else .drive

/-- The level of the line: a station that drives the drive level prevails, and the idle level is held where none does
(R170). -/
def lineLevel (driven : List Level) : Level := if .drive ∈ driven then .drive else .idle

/-- The ten bit times of a character: the start bit at the drive level, the data bits with the least significant first,
the stop bit at the idle level (R170). -/
def characterLevels (b : Byte) : List Level :=
  .drive :: (List.range 8).map (fun k => Level.ofBit (b.getLsbD k)) ++ [.idle]

/-- The bit times of a frame: its characters back to back (R170). -/
def frameLevels (chars : List Byte) : List Level := chars.flatMap characterLevels

/-- The character read from the nine bits after a start bit; none for a framing error, a stop bit read at the drive
level (R170). -/
def readCharacter (levels : BitVec 9) : Option Byte :=
  if levels.getLsbD 8 then some (levels.extractLsb' 0 8) else none

/-- The level the bus interface drives at a moment: its attempt's frame bit by bit, and the idle level outside an attempt,
in every state (R170). -/
def Bus.drivenLevel (b : Bus) (t : Time) : Level :=
  match b.attempt with
  | some a => if a.began ≤ t then (frameLevels a.frame).getD (t - a.began) .idle else .idle
  | none => .idle

/-! ## Fields of the two frames (R197, R198) -/

/-- The fields of a report frame, each as wide as the layout has it (R197). -/
structure ReportFields where
  station : BitVec 5
  unitNumber : Word16
  stateCode : BitVec 4
  slow : Bool
  prompt : Bool
  fresh : Bool
  liftPresent : Bool
  supplyLow : Bool
  upperEnd : Bool
  lowerEnd : Bool
  conflict : Bool
  safety : Bool
  motion : Bool
  group : Bool
  clashOrSurplus : Bool
  bodyIndex : BitVec 4
  reserved : BitVec 2
  startCause : BitVec 2
  digest : Word16
  lift : BitVec 24
  velocity : Word16
  load : Word16
  firstCause : Byte
  origin : Byte
  deriving DecidableEq, Repr

/-- The fields of a request frame (R198). -/
structure RequestFields where
  station : BitVec 5
  unitNumber : Word16
  code : Byte
  deriving DecidableEq, Repr

/-- A frame that has passed the bus interface's checks (R172). -/
inductive Frame where
  | report (r : ReportFields)
  | request (q : RequestFields)
  deriving DecidableEq, Repr

/-! ## Building frames -/

/-- A bit as one bit of a byte. -/
abbrev bit (b : Bool) : BitVec 1 := BitVec.ofBool b

/-- Byte 4 of a report: state code, period SLOW, prompt, fresh, lift present (R197). -/
def ReportFields.byte4 (r : ReportFields) : Byte :=
  bit r.liftPresent ++ bit r.fresh ++ bit r.prompt ++ bit r.slow ++ r.stateCode

/-- Byte 5 of a report: the indications and the class summary, supply low in bit 0 (R197). -/
def ReportFields.byte5 (r : ReportFields) : Byte :=
  bit r.clashOrSurplus ++ bit r.group ++ bit r.motion ++ bit r.safety ++ bit r.conflict ++ bit r.lowerEnd
    ++ bit r.upperEnd ++ bit r.supplyLow

/-- Byte 6 of a report: body index, reserved bits, start cause (R197). -/
def ReportFields.byte6 (r : ReportFields) : Byte := r.startCause ++ r.reserved ++ r.bodyIndex

/-- Bytes 1..17 of a report (R197). -/
def ReportFields.body (r : ReportFields) : List Byte :=
  [(1#3 ++ r.station : Byte), highByte r.unitNumber, lowByte r.unitNumber, r.byte4, r.byte5, r.byte6,
    highByte r.digest, lowByte r.digest, r.lift.extractLsb' 16 8, r.lift.extractLsb' 8 8, r.lift.extractLsb' 0 8,
    highByte r.velocity, lowByte r.velocity, highByte r.load, lowByte r.load, r.firstCause, r.origin]

/-- Bytes 1..4 of a request frame (R198). -/
def RequestFields.body (q : RequestFields) : List Byte :=
  [(2#3 ++ q.station : Byte), highByte q.unitNumber, lowByte q.unitNumber, q.code]

/-- A frame's characters: the start character, the checked bytes, and their CRC, most significant byte first
(R196, R200). -/
def frameChars (body : List Byte) : List Byte :=
  startCharacter :: body ++ [highByte (crc16 body), lowByte (crc16 body)]

/-- The 20 characters of a report (R197). -/
def ReportFields.chars (r : ReportFields) : List Byte := frameChars r.body

/-- The 7 characters of a request frame (R198). -/
def RequestFields.chars (q : RequestFields) : List Byte := frameChars q.body

/-- The characters of a frame. -/
def Frame.chars : Frame → List Byte
  | .report r => r.chars
  | .request q => q.chars

/-! ## Receiving (R171, R172) -/

/-- The fields of a report read from bytes 1..17 (R197). -/
def ReportFields.ofBody : List Byte → Option ReportFields
  | [b1, b2, b3, b4, b5, b6, b7, b8, b9, b10, b11, b12, b13, b14, b15, b16, b17] =>
    some
      { station := b1.extractLsb' 0 5
        unitNumber := b2 ++ b3
        stateCode := b4.extractLsb' 0 4
        slow := b4.getLsbD 4
        prompt := b4.getLsbD 5
        fresh := b4.getLsbD 6
        liftPresent := b4.getLsbD 7
        supplyLow := b5.getLsbD 0
        upperEnd := b5.getLsbD 1
        lowerEnd := b5.getLsbD 2
        conflict := b5.getLsbD 3
        safety := b5.getLsbD 4
        motion := b5.getLsbD 5
        group := b5.getLsbD 6
        clashOrSurplus := b5.getLsbD 7
        bodyIndex := b6.extractLsb' 0 4
        reserved := b6.extractLsb' 4 2
        startCause := b6.extractLsb' 6 2
        digest := b7 ++ b8
        lift := b9 ++ b10 ++ b11
        velocity := b12 ++ b13
        load := b14 ++ b15
        firstCause := b16
        origin := b17 }
  | _ => none

/-- The fields of a request frame read from bytes 1..4 (R198). -/
def RequestFields.ofBody : List Byte → Option RequestFields
  | [b1, b2, b3, b4] => some { station := b1.extractLsb' 0 5, unitNumber := b2 ++ b3, code := b4 }
  | _ => none

/-- The CRC check of a frame of a given length after its start character: its last two bytes are the CRC-16 over the
bytes before them (R171, R172). Answers the checked bytes. -/
def checkedBody (length : Nat) (bytes : List Byte) : Option (List Byte) :=
  let body := bytes.take length
  if bytes.length = length + 2 ∧ bytes.drop length = [highByte (crc16 body), lowByte (crc16 body)] then some body
  else none

/-- The receiver's checks on the characters of one frame: the start character, the kind, the station number 1..24, the
kind's length and the CRC (R171, R172). `none` is a discarded frame. -/
def receive (chars : List Byte) : Option Frame :=
  match chars with
  | c0 :: c1 :: rest =>
    let station := (c1.extractLsb' 0 5).toNat
    if c0 = startCharacter ∧ 1 ≤ station ∧ station ≤ 24 then
      match (c1.extractLsb' 5 3).toNat with
      | 1 => ((checkedBody 17 (c1 :: rest)).bind ReportFields.ofBody).map Frame.report
      | 2 => ((checkedBody 4 (c1 :: rest)).bind RequestFields.ofBody).map Frame.request
      | _ => none
    else none
  | _ => none

/-! ## The content check of the peer table (R57) -/

/-- The codes of a request frame (R198). -/
def codeRaise : Byte := 1#8
@[inherit_doc codeRaise] def codeLower : Byte := 2#8
@[inherit_doc codeRaise] def codeClear : Byte := 3#8

/-- First cause and origin as R57 allows them: in HALTED a code 1..17 and an origin 1..24, in any other state 0 and 0.
`none` is malformed. -/
def ReportFields.causeField (r : ReportFields) (st : StationState) : Option (Option (Cause × Nat)) :=
  if st = .halted then
    if 1 ≤ r.origin.toNat ∧ r.origin.toNat ≤ 24 then
      (Cause.ofCode r.firstCause.toNat).map (fun c => some (c, r.origin.toNat))
    else none
  else if r.firstCause = 0#8 ∧ r.origin = 0#8 then some none
  else none

/-- The ranges of R57 that do not depend on the state code. -/
def ReportFields.inRange (r : ReportFields) : Bool :=
  r.unitNumber != 0#16 && decide (r.bodyIndex.toNat ≤ 11) && (!r.liftPresent || decide (r.lift.toNat ≤ 200000))
    && decide (-999 ≤ r.velocity.toInt ∧ r.velocity.toInt ≤ 999) && decide (r.load.toNat ≤ 4000)

/-- The content of a report that an entry keeps (R53, R69), or `none` for a malformed report (R57). -/
def ReportFields.content (r : ReportFields) : Option Content :=
  if r.inRange then
    match StationState.ofCode r.stateCode.toNat with
    | some st =>
      (r.causeField st).map (fun fc =>
        { unitNumber := r.unitNumber.toNat
          state := st
          period := if r.slow then .slow else .fast
          fresh := r.fresh
          bodyIndex := r.bodyIndex.toNat
          digest := r.digest
          lift := if r.liftPresent then some r.lift.toNat else none
          velocity := r.velocity.toInt
          firstCause := fc })
    | none => none
  else none

/-! ## The content of an own frame (R179) -/

/-- The code of a start cause in a report (R197). -/
def startCauseCode : ResetSource → BitVec 2
  | .powerOn => 1#2
  | .brownOut => 2#2
  | .resetPin => 3#2

/-- The own station number; 0 while it is absent, in which case nothing is sent (R173). -/
def State.ownNumber (s : State) : Nat := s.start.stationNumber.getD 0

/-- The content of a report, each item as it stands at the beginning of the attempt (R179, R193, R197). -/
def State.reportFields (s : State) (prompt : Bool) : ReportFields :=
  { station := BitVec.ofNat 5 s.ownNumber
    unitNumber := BitVec.ofNat 16 s.start.unitNumber
    stateCode := BitVec.ofNat 4 s.ctrl.state.code
    slow := s.ctrl.state.period == .slow
    prompt := prompt
    fresh := s.ctrl.fresh
    liftPresent := s.ownLift.isSome
    supplyLow := s.start.supplyLow
    upperEnd := s.meas.upperEnd
    lowerEnd := s.meas.lowerEnd
    conflict := s.conflictIndication
    safety := Cause.summaryHas .safety s.halt.causes
    motion := Cause.summaryHas .motion s.halt.causes
    group := Cause.summaryHas .group s.halt.causes
    clashOrSurplus := s.clashOrSurplus
    bodyIndex := BitVec.ofNat 4 ((s.start.config.map Options.bodyIndex).getD 0)
    reserved := 0#2
    startCause := if s.ctrl.fresh then startCauseCode s.start.startCause else 0#2
    digest := s.start.digest.getD 0#16
    lift := BitVec.ofNat 24 (s.ownLift.getD 0)
    velocity := BitVec.ofInt 16 s.meas.velocity
    load := BitVec.ofNat 16 s.meas.load
    firstCause := BitVec.ofNat 8 ((s.halt.first.map (fun f => f.cause.code)).getD 0)
    origin := BitVec.ofNat 8 ((s.halt.first.map FirstCause.origin).getD 0) }

/-- The content of a request or CLEAR frame: station number, unit number and the token's code (R179, R198). -/
def State.requestFields (s : State) (code : Byte) : RequestFields :=
  { station := BitVec.ofNat 5 s.ownNumber, unitNumber := BitVec.ofNat 16 s.start.unitNumber, code := code }

/-- The code of a motion request (R198). -/
def RequestKind.code : RequestKind → Byte
  | .raise => codeRaise
  | .lower => codeLower

end Sys2Proof.Machine
end

