-- ==== Sys2Proof/Machine/Operands.lean ====
section
/-! DEFINITION. What the operands of commands say: an encoder sample, a converter reply, the straps, the option block,
and the scalings and steps computed from them. -/

namespace Sys2Proof.Machine

/-! ## The encoder (R32 to R34) -/

/-- What an encoder sample shows against the one before (R32, R33). -/
inductive EncoderStep where
  | unchanged
  | forward
  | backward
  | phaseError
  deriving DecidableEq, Repr

/-- An encoder sample `(a', b')` after `(a, b)`. The forward sequence is (low, low), (high, low), (high, high),
(low, high), so the pair after (a, b) is (not b, a) (R32); both channels changed is a phase error (R33). -/
def encoderStep (a b a' b' : Bool) : EncoderStep :=
  if a' = a ∧ b' = b then .unchanged
  else if a' ≠ a ∧ b' ≠ b then .phaseError
  else if a' = !b ∧ b' = a then .forward
  else .backward

/-- The stroke counter's saturation (R34). -/
def strokeLimit : Int := 1000000

/-- A counted edge, with saturation at both ends (R32, R34). -/
def countStroke (stroke : Int) : EncoderStep → Int
  | .forward => if stroke < strokeLimit then stroke + 1 else stroke
  | .backward => if -strokeLimit < stroke then stroke - 1 else stroke
  | _ => stroke

/-! ## Velocity (R36) -/

/-- The ring with a new sample pushed and the oldest gone; at the first expiry after a reset, all eleven samples are the
new one (R35). -/
def pushRing (ring : Vector Int 11) (filled : Bool) (x : Int) : Vector Int 11 :=
  if filled then ring.tail.push x else Vector.replicate 11 x

/-- The velocity: the newest sample less the oldest, clamped to -999..999 (R36). -/
def ringVelocity (ring : Vector Int 11) : Int := max (-999) (min 999 (ring[10] - ring[0]))

/-! ## The load converter (R38 to R40, R188) -/

/-- The two outcomes of a converter read (R39). -/
inductive ConverterReply where
  | good (raw : Nat)
  | miss
  deriving DecidableEq, Repr

/-- The reply's sixteen samples, sample k in bit 16 - k: the framing mark is seen when sample 1 reads 0, the ready
indication is set when sample 2 reads 1, samples 3 to 14 are the raw value, most significant bit first, and samples 15
and 16 are not examined (R38, R39). -/
def sortReply (reply : BitVec 16) : ConverterReply :=
  if reply.getLsbD 15 = false ∧ reply.getLsbD 14 = true then .good (reply.extractLsb' 2 12).toNat else .miss

/-- The zero in force: the configured one, or the start value without a configuration (R188). -/
def StartUnit.zeroInForce (u : StartUnit) : Nat := (u.config.map Options.zero).getD 0

/-- The full scale in force (R188). -/
def StartUnit.fullScaleInForce (u : StartUnit) : Nat := (u.config.map Options.fullScale).getD 4000

/-- The overload limit in force (R188). -/
def StartUnit.overloadLimitInForce (u : StartUnit) : Nat := (u.config.map Options.overloadLimit).getD 4000

/-- The load of a good sample: floor(max(0, raw - zero) × full scale / 4095), clamped to 0..4000 (R40). -/
def scaleLoad (zero fullScale raw : Nat) : Nat := min ((raw - zero) * fullScale / 4095) 4000

/-! ## The straps and the option block (R189 to R192, R199) -/

/-- The station number read from the straps: the sum of the weights of the fitted ones (R189). -/
def strapNumber (straps : BitVec 5) : Nat := straps.toNat

/-- A station number is valid at 1..24 (R189). -/
def validStation (n : Nat) : Bool := decide (1 ≤ n ∧ n ≤ 24)

/-- The bytes of the block from the data line's bits, 8 to a byte, the most significant first, byte 0 first (R190). -/
def blockOf (data : BitVec 280) : List Byte := (List.range 35).map (fun k => data.extractLsb' (8 * (34 - k)) 8)

/-- A byte of the option block as an unsigned number (R199). -/
def blockByte (block : List Byte) (k : Nat) : Nat := (block.getD k 0#8).toNat

/-- Two bytes of the option block, most significant byte first (R196, R199). -/
def blockWord (block : List Byte) (k : Nat) : Nat := blockByte block k * 256 + blockByte block (k + 1)

/-- The fields of an option block (R199), before any check. Supply policy 1 is HALT; the range check admits 0 and 1
alone. -/
def blockFields (block : List Byte) : Options :=
  { n := blockByte block 1
    window := blockWord block 2
    spreadBody := blockWord block 4
    spreadSet := blockWord block 6
    vRaise := blockWord block 8
    vLower := blockWord block 10
    dMin := blockByte block 12
    ramp := blockByte block 13
    seatSpeed := blockByte block 14
    parkDelay := blockByte block 15
    policy := if blockByte block 16 = 1 then .halt else .derate
    creepLimit := blockWord block 17
    unseatLift := blockWord block 19
    bodyIndex := blockByte block 21
    fullScale := blockWord block 22
    zero := blockWord block 24
    contactThreshold := blockWord block 26
    releaseThreshold := blockWord block 28
    overloadLimit := blockWord block 30
    brakeReleaseTime := blockByte block 32 }

/-- The ranges of the fields, those that name another field among them (R191). -/
def Options.inRange (o : Options) : Bool :=
  decide (2 ≤ o.n ∧ o.n ≤ 24)
    && decide (50 ≤ o.window ∧ o.window ≤ 2000)
    && decide (o.window + 1 ≤ o.spreadBody ∧ o.spreadBody ≤ 10000)
    && decide (o.spreadBody ≤ o.spreadSet ∧ o.spreadSet ≤ 20000)
    && decide (100 ≤ o.vRaise ∧ o.vRaise ≤ 1000)
    && decide (100 ≤ o.vLower ∧ o.vLower ≤ 1000)
    && decide (20 ≤ o.dMin ∧ o.dMin ≤ min (min o.vRaise o.vLower) o.seatSpeed / 2)
    && decide (5 ≤ o.ramp ∧ o.ramp ≤ 200)
    && decide (50 ≤ o.seatSpeed ∧ o.seatSpeed ≤ 250)
    && decide (10 ≤ o.parkDelay ∧ o.parkDelay ≤ 250)
    && decide (20 ≤ o.creepLimit ∧ o.creepLimit ≤ 500)
    && decide (100 ≤ o.unseatLift ∧ o.unseatLift ≤ 2000)
    && decide (o.bodyIndex ≤ 11)
    && decide (500 ≤ o.fullScale ∧ o.fullScale ≤ 4000)
    && decide (o.zero ≤ 400)
    && decide (5 ≤ o.contactThreshold)
    && decide (1 ≤ o.releaseThreshold ∧ o.releaseThreshold + 1 ≤ o.contactThreshold)
    && decide (o.contactThreshold + 1 ≤ o.overloadLimit ∧ o.overloadLimit ≤ o.fullScale)
    && decide (5 ≤ o.brakeReleaseTime ∧ o.brakeReleaseTime ≤ 50)

/-- The block's own checks: 35 bytes, the stored CRC over bytes 0..32, the format mark 41h, and a supply policy of 0 or
1 (R191). -/
def blockSound (block : List Byte) : Bool :=
  decide (block.length = 35)
    && decide (block.drop 33 = [highByte (crc16 (block.take 33)), lowByte (crc16 (block.take 33))])
    && decide (blockByte block 0 = 0x41)
    && decide (blockByte block 16 ≤ 1)

/-- The configuration of a valid option block, `none` for an invalid one (R191). -/
def readOptions (block : List Byte) : Option Options :=
  if blockSound block && (blockFields block).inRange then some (blockFields block) else none

/-- The digest: the CRC-16 over option bytes 1..20 (R192). -/
def blockDigest (block : List Byte) : Word16 := crc16 ((block.drop 1).take 20)

/-! ## The retry offset (R181) -/

/-- The retry offset after an abandoned attempt: 2 × ((d + 7 × a) mod 16), with d the digit of the unit number in base
16 in the place (a - 1) mod 4 (R181). -/
def retryOffset (unitNumber attempts : Nat) : Nat :=
  2 * ((unitNumber / 16 ^ ((attempts - 1) % 4) % 16 + 7 * attempts) % 16)

/-- The access gap of a station number: 24 + 2 × (s - 1) bit times (R178). -/
def accessGap (station : Nat) : Time := 24 + 2 * (station - 1)

end Sys2Proof.Machine
end

