-- ==== Sys2Proof/Machine/Ops.lean ====
section
/-! DEFINITION. The shared operations: the clock, the bus interface's queue, the drive unit's hand-over, what a change of
state hands on to its neighbours (R4), the chain of the state controller's transitions, taking causes and clearing. -/

namespace Sys2Proof.Machine

/-! ## The clock and the two kinds of command -/

/-- The clock at a moment that has come; it never goes back (log entry 2). -/
def State.tick (s : State) (t : Time) : State := { s with now := max s.now t }

/-- A command's effect while no reset is held; while one is held the blocks keep their reset values and their timers do
not run (R185). -/
def State.whenRunning (s : State) (f : State → State) : Host.Outcome State Fault Refusal :=
  .next (if s.start.resetHeld then s else f s)

/-- An event that comes from outside at a moment. -/
def State.onEvent (s : State) (t : Time) (f : State → State) : Host.Outcome State Fault Refusal :=
  s.whenRunning (fun s => f (s.tick t))

/-- A filtered change of an input: an event from outside, taken no earlier than the filter's time after the moment from
which the filter times the input (log entry 11). -/
def State.onFilter (s : State) (t : Time) (filterFrom : Option Time) (filter : Time) (f : State → State) :
    Host.Outcome State Fault Refusal :=
  s.onEvent (max t (filterFrom.getD 0 + filter)) f

/-- The end of an own timer: taken at its moment when the timer runs; a stopped timer does not expire (R147, log
entry 2). -/
def State.onTimer (s : State) (timer : Option Time) (f : Time → State → State) : Host.Outcome State Fault Refusal :=
  s.whenRunning (fun s =>
    match timer with
    | some t => f t (s.tick t)
    | none => s)

/-! ## The synchronisation engine between expiries (R86 to R88, R97, R98) -/

/-- The ceiling of a state before the derate (R86). -/
def Options.fullCeiling (o : Options) : StationState → Nat
  | .lifting => o.vRaise
  | .lowering => o.vLower
  | .seating => o.seatSpeed
  | .unseating => o.seatSpeed
  | .jog => o.seatSpeed
  | _ => 0

/-- The ceiling of a state, halved when the policy is DERATE and the supply-low indication is present (R86, R87). -/
def StartUnit.ceiling (u : StartUnit) (st : StationState) : Nat :=
  match u.config with
  | some o => if o.policy = .derate ∧ u.supplyLow = true then o.fullCeiling st / 2 else o.fullCeiling st
  | none => 0

/-- What the engine does at a change of state handed on: it keeps the new ceiling, makes a direction change, or lowers
the commanded output to the ceiling (R97, R98). -/
def Engine.stateChange (e : Engine) (ceiling : Nat) (motion : Option Direction) : Engine :=
  let d := motion.getD e.direction
  { e with
    commanded := if d = e.direction then min e.commanded ceiling else 0
    direction := d
    lastCeiling := ceiling }

/-- The derate at once: the last ceiling is halved and the commanded output lowered to it (R88). -/
def Engine.derateAtOnce (e : Engine) : Engine :=
  { e with commanded := min e.commanded (e.lastCeiling / 2), lastCeiling := e.lastCeiling / 2 }

/-- A clamp at once: the commanded output becomes 0 (R94). -/
def Engine.clampAtOnce (e : Engine) : Engine := { e with commanded := 0 }

/-! ## The drive unit (R145 to R152) -/

/-- The hand-over of the commanded output and the output direction (R99, R150 to R152). With the same direction the
output is applied while the brake is RELEASED. With another, the direction output takes it with the applied output at 0,
and the extreme stroke is taken afresh while RELEASED (R155). The stall counter returns to 0 when the applied output is
below d_min. -/
def Drive.handOver (d : Drive) (dMin : Nat) (stroke : Int) (commanded : Nat) (direction : Direction) : Drive :=
  if d.direction = direction then
    let applied := if d.brake = .released then commanded else 0
    { d with commandedCopy := commanded, applied := applied, stall := if applied < dMin then 0 else d.stall }
  else
    { d with
      commandedCopy := commanded
      applied := 0
      direction := direction
      stall := 0
      extreme := if d.brake = .released then some stroke else d.extreme }

/-- The brake set with its timers stopped, no output, no stall count and no extreme (R148, R149). -/
def Drive.setBrake (d : Drive) : Drive :=
  { d with brake := .set, releaseTimer := none, setDelay := none, applied := 0, stall := 0, extreme := none }

/-- What the drive unit does at a change of state handed on (R145 to R149). -/
def Drive.stateChange (d : Drive) (now releaseTime : Time) (stroke : Int) (old new : StationState) : Drive :=
  if new = .halted then { d.setBrake with creepReference := stroke }
  else if new = .configFault then d.setBrake
  else if new.isMoving then
    match d.brake with
    | .set => { d with brake := .releasing, releaseTimer := some (now + releaseTime) }
    | .releasing => d
    | .released => { d with setDelay := none }
  else if old.isMoving then
    match d.brake with
    | .set => d
    | .releasing => { d.setBrake with creepReference := stroke }
    | .released => { d with setDelay := some (now + Timing.setDelay) }
  else d

/-- The least moving demand in force; 0 without a configuration. -/
def StartUnit.dMin (u : StartUnit) : Nat := (u.config.map Options.dMin).getD 0

/-- The brake release time (R146, R199). -/
def StartUnit.releaseTime (u : StartUnit) : Time := (u.config.map Options.brakeReleaseTime).getD 0 * Timing.releaseUnit

/-- The engine hands its commanded output and output direction to the drive unit (R99). -/
def State.handOver (s : State) : State :=
  { s with drive := s.drive.handOver s.start.dMin s.meas.stroke s.engine.commanded s.engine.direction }

/-! ## The confirmation counters at a change of state (R42 to R46) -/

/-- A counter started at 5 (R42). -/
def Counter.started : Counter := { value := 5, running := true }

/-- A counter stopped; its progress counts for nothing any more (R42, R43, log entry 8). -/
def Counter.stopped (c : Counter) : Counter := { c with running := false }

/-- The counters at a change of state handed on: contact in SEATING, release in UNSEATING, unseat in HOLDING, LIFTING,
LOWERING and PARKED, where it keeps its value across a change among them (R43, R44, R46). -/
def Measurement.stateChange (m : Measurement) (old new : StationState) : Measurement :=
  { m with
    contact := if new = .seating then .started else m.contact.stopped
    release := if new = .unseating then .started else m.release.stopped
    unseat := if new.isSeated then (if old.isSeated then m.unseat else .started) else m.unseat.stopped }

/-! ## The transmit queue (R174 to R177) -/

/-- Whether the queue holds no token. -/
def Bus.isEmpty (b : Bus) : Bool := b.report.isNone && b.motion.isNone && b.clear.isNone

/-- Whether the token of a place is in a send attempt. -/
def Bus.underAttempt (b : Bus) (p : Place) : Bool := b.attempt.any (fun a => a.place == p)

/-- The access wait begins when a token enters an empty queue (R178). -/
def Bus.beginWait (b before : Bus) (now : Time) : Bus :=
  if before.isEmpty then { b with accessWait := some now } else b

/-- A scheduled report meets its place: it enters, merges, or is held as pending (R174). -/
def Bus.scheduleReport (b : Bus) (now : Time) : Bus :=
  if b.underAttempt .report then
    { b with pendingReport := some (b.pendingReport.getD { prompt := false, restart := false }) }
  else
    match b.report with
    | some _ => b
    | none => { b with report := some { prompt := false, entered := now, attempts := 0 } }.beginWait b now

/-- The report timer set to an interval from now (R160, R176). -/
def Bus.restartTimer (b : Bus) (now : Time) (p : PeriodClass) : Bus :=
  { b with reportTimer := some { due := now + p.interval, interval := p } }

/-- A prompt report request judged against the prompt-spent flag, no report being under attempt (R174, R177). -/
def Bus.judgePrompt (b : Bus) (now : Time) : Bus :=
  if b.promptSpent then b
  else
    match b.report with
    | some t => { b with report := some { t with prompt := true } }
    | none => { b with report := some { prompt := true, entered := now, attempts := 0 } }.beginWait b now

/-- A prompt report request. Under attempt it is held as pending, with the mark. Otherwise it is judged, and where it
comes with an entry to PARKED or a leaving of it (`restart`), the report timer restarts at once with the period of the
state if a prompt report was queued or a report token waits (R160, R174, R177). -/
def Bus.askPrompt (b : Bus) (now : Time) (period : PeriodClass) (restart : Bool) : Bus :=
  if b.underAttempt .report then
    { b with pendingReport := some { prompt := true, restart := restart || b.pendingReport.any PendingReport.restart } }
  else if restart && (!b.promptSpent || b.report.isSome) then (b.judgePrompt now).restartTimer now period
  else b.judgePrompt now

/-- A motion request meets its place: it enters, replaces the waiting token, or is held as pending (R174). -/
def Bus.requestMotion (b : Bus) (now : Time) (k : RequestKind) : Bus :=
  if b.underAttempt .motion then { b with pendingMotion := some k }
  else { b with motion := some { kind := k, entered := now, attempts := 0 } }.beginWait b now

/-- A clear token meets its place: it enters an empty one and is otherwise nothing (R174). -/
def Bus.requestClear (b : Bus) (now : Time) : Bus :=
  match b.clear with
  | some _ => b
  | none => { b with clear := some { entered := now, attempts := 0 } }.beginWait b now

/-- The pending requests judged at the end of an attempt (R174): a report request by its mark, a motion request by
entering or replacing. -/
def Bus.judgePending (b : Bus) (now : Time) (period : PeriodClass) : Bus :=
  let b1 := { b with pendingReport := none, pendingMotion := none }
  let b2 :=
    match b.pendingReport with
    | some p => if p.prompt then b1.askPrompt now period p.restart else b1.scheduleReport now
    | none => b1
  match b.pendingMotion with
  | some k => b2.requestMotion now k
  | none => b2

/-- The access wait at the end of an attempt: it begins again if the queue is not empty (R178, R180). -/
def Bus.waitAgain (b : Bus) (now : Time) : Bus :=
  { b with accessWait := if b.isEmpty then none else some now }

/-- A place emptied: its token leaves (R180, R182). -/
def Bus.emptyPlace (b : Bus) : Place → Bus
  | .report => { b with report := none }
  | .motion => { b with motion := none }
  | .clear => { b with clear := none }

/-- When the token of a place entered. -/
def Bus.enteredAt (b : Bus) : Place → Option Time
  | .report => b.report.map ReportToken.entered
  | .motion => b.motion.map MotionToken.entered
  | .clear => b.clear.map ClearToken.entered

/-- The attempt count of the token of a place; 0 where there is none. -/
def Bus.attemptsOf (b : Bus) : Place → Nat
  | .report => (b.report.map ReportToken.attempts).getD 0
  | .motion => (b.motion.map MotionToken.attempts).getD 0
  | .clear => (b.clear.map ClearToken.attempts).getD 0

/-- A failed attempt counted at the token of a place (R180). -/
def Bus.countFailure (b : Bus) : Place → Bus
  | .report => { b with report := b.report.map (fun t => { t with attempts := t.attempts + 1 }) }
  | .motion => { b with motion := b.motion.map (fun t => { t with attempts := t.attempts + 1 }) }
  | .clear => { b with clear := b.clear.map (fun t => { t with attempts := t.attempts + 1 }) }

/-- Of two places with entry moments, the one whose token is sent first: the older, and the first of the two at equal
moments (R175). -/
def Bus.older (x y : Option (Place × Time)) : Option (Place × Time) :=
  match x, y with
  | some a, some b => if b.2 < a.2 then some b else some a
  | some a, none => some a
  | none, y => y

/-- The place of the token at the front of the queue: a report with the prompt mark, else the oldest, at equal entry
moments in the order report, clear, motion request (R175). -/
def Bus.front (b : Bus) : Option Place :=
  if b.report.any ReportToken.prompt then some .report
  else
    (Bus.older (Bus.older ((b.enteredAt .report).map (Prod.mk .report)) ((b.enteredAt .clear).map (Prod.mk .clear)))
      ((b.enteredAt .motion).map (Prod.mk .motion))).map Prod.fst

/-! ## What a change of state hands on (R4) -/

/-- Whether a change of state asks for a prompt report: entry to HALTED, entry to PARKED, leaving PARKED (R177). -/
def asksPrompt (old new : StationState) : Bool := new == .halted || new == .parked || old == .parked

/-- A change of state handed on from `old` to the state that now stands (R4): the engine takes its new ceiling and hands
over (R98), the drive unit applies its brake rule (R145), the counters start and stop (R42), and the bus interface is
asked for a prompt report where the change asks for one (R160, R177). Nothing is handed on where the state has not
changed. -/
def State.handOn (s : State) (old : StationState) : State :=
  let new := s.ctrl.state
  if new = old then s
  else
    let s1 :=
      { s with engine := s.engine.stateChange (s.start.ceiling new) (new.motion s.ctrl.jogDirection) }.handOver
    let s2 :=
      { s1 with
        drive := s1.drive.stateChange s.now s.start.releaseTime s.meas.stroke old new
        meas := s.meas.stateChange old new }
    if asksPrompt old new then
      { s2 with bus := s.bus.askPrompt s.now new.period (old == .parked || new == .parked) }
    else s2

/-- The park timer as R157 governs it: it runs in HOLDING with the group command NONE, started when that begins. -/
def Controller.parkAfter (c : Controller) (now delay : Time) (command : GroupCommand) : Option Time :=
  if c.state = .holding ∧ command = .none then some (c.parkTimer.getD (now + delay)) else none

/-- The park delay in force (R157, R199). -/
def StartUnit.parkTime (u : StartUnit) : Time := (u.config.map Options.parkDelay).getD 0 * Timing.parkUnit

/-- The park timer and the READY and FAULT lamps brought in line with the state, the flag and the command (R8, R117,
R157). -/
def State.refresh (s : State) : State :=
  { s with
    ctrl := { s.ctrl with
      parkTimer := s.ctrl.parkAfter s.now s.start.parkTime s.command
      readyLamp := s.ctrl.readyLampLit }
    halt := { s.halt with faultLamp := s.ctrl.state.faultLampLit } }

/-! ## The transitions of the state controller (chapter 1) -/

/-- The station state written, alone. -/
def State.withState (s : State) (st : StationState) : State := { s with ctrl := { s.ctrl with state := st } }

/-- An entry with its member mark removed (R6). -/
def Entry.unmark (e : Entry) : Entry := { e with member := false }

/-- The assembled flag cleared: every member mark removed, the request table emptied and the request sequence ended in
the same change (R6, R133, R139). -/
def State.clearFlag (s : State) : State :=
  { s with
    ctrl := { s.ctrl with assembled := false }
    peers := { s.peers with entries := Table.map Entry.unmark s.peers.entries }
    request := { s.request with slots := Vector.replicate 24 none, sequence := none } }

/-- Entry to ASSEMBLING (R16). -/
def State.enterAssembling (s : State) : State := s.clearFlag.withState .assembling

/-- An entry marked when it is eligible (R5). -/
def Entry.markIfEligible (own : Option Word16) (e : Entry) : Entry := { e with member := e.eligible own }

/-- The assembly completes: READY, the flag set, the eligible entries marked, the fresh flag cleared (R5, R16). -/
def State.enterAssembled (s : State) : State :=
  { s with
    ctrl := { s.ctrl with state := .ready, assembled := true, fresh := false }
    peers := { s.peers with entries := Table.map (Entry.markIfEligible s.start.digest) s.peers.entries } }

/-- Entry to READY from a state other than ASSEMBLING, tested against the assembly first (R17). -/
def State.enterReady (s : State) : State :=
  if s.assemblyHolds then s.withState .ready else s.enterAssembling

/-- One transition of the present state whose condition holds, or the state as it is (R4; R16, R17, R19, R22 to R26,
R166). -/
def State.chainStep (s : State) : State :=
  match s.ctrl.state with
  | .assembling => if s.groupAssembled then s.enterAssembled else s
  | .ready =>
    if !s.assemblyHolds then s.enterAssembling
    else if s.command = .raise then s.withState .seating
    else s
  | .jog => if s.ctrl.assembled && !s.assemblyHolds then s.clearFlag else s
  | .seating => if s.command = .raise then s else s.enterReady
  | .holding =>
    match s.command with
    | .raise => if s.poised then s.withState .lifting else s
    | .lower =>
      if s.landed then s.withState .unseating
      else if s.poised then s.withState .lowering
      else s
    | _ => s
  | .lifting => if s.command = .raise ∧ s.poised = true then s else s.withState .holding
  | .lowering =>
    if s.command = .lower then
      if s.landed then s.withState .unseating
      else if s.poised then s
      else s.withState .holding
    else s.withState .holding
  | .unseating => if s.command = .raise then s.withState .holding else s
  | .parked => if s.command = .none then s else s.withState .holding
  | .start | .configFault | .halted => s

/-- The chain of transitions, taken until no condition holds (R4): no chain is longer than four of these steps. -/
def State.chain (s : State) : State := s.chainStep.chainStep.chainStep.chainStep

/-- The state controller re-evaluates its transitions and hands on the state the chain stops in, as a change from
`old` (R4). -/
def State.settleFrom (s : State) (old : StationState) : State := (s.chain.handOn old).refresh

/-- The state controller re-evaluates its transitions after a change of its inputs (R4). -/
def State.settle (s : State) : State := s.settleFrom s.ctrl.state

/-- An assembly loss signalled as an event: READY returns to ASSEMBLING, JOG loses its flag; none elsewhere (R11,
R17, R19). -/
def State.assemblyLoss (s : State) : State :=
  match s.ctrl.state with
  | .ready => s.enterAssembling.settleFrom .ready
  | .jog => s.clearFlag.refresh
  | _ => s

/-! ## Taking causes (R106 to R110, R114) -/

/-- The origin of a first cause: the own number, for PEER_HALTED the origin of the report (R109). -/
def State.originOf (s : State) (c : Cause) (reportOrigin : Nat) : Nat :=
  if c = .peerHalted then reportOrigin else s.ownNumber

/-- The causes of an event added to the cause set (R108, R110). -/
def State.addCauses (s : State) (causes : List Cause) : State :=
  { s with halt := { s.halt with causes := Cause.insertAll causes s.halt.causes } }

/-- The halt unit takes one event of one or more causes (R106 to R110). In START and CONFIG_FAULT it is disregarded. In
HALTED its causes are added. Otherwise the causes are added, the first cause is the one of the event with the lowest
code, its origin is recorded, and the station enters HALTED (R114). -/
def State.takeCauses (s : State) (causes : List Cause) (reportOrigin : Nat := 0) : State :=
  match Cause.insertAll causes [] with
  | [] => s
  | c :: _ =>
    if !s.ctrl.state.isOperating then s
    else if s.ctrl.state = .halted then s.addCauses causes
    else
      let s1 := (s.addCauses causes).withState .halted
      let s2 := { s1 with halt := { s1.halt with first := some { cause := c, origin := s.originOf c reportOrigin } } }
      (s2.handOn s.ctrl.state).refresh

/-! ## Clearing (R118 to R122) -/

/-- The causes a clear attempt leaves: the level causes whose condition is present (R119). -/
def State.remainingCauses (s : State) : List Cause := s.halt.causes.filter s.conditionPresent

/-- A clear attempt fails: the remaining causes stay, and the one of highest priority becomes the first cause with the
own number as origin (R120). -/
def State.failClear (s : State) (first : Cause) (remaining : List Cause) : State :=
  { s with halt := { s.halt with causes := remaining, first := some { cause := first, origin := s.ownNumber } } }

/-- The state a successful clear returns to, entered: HOLDING with the contact record, else READY with the flag set, else
ASSEMBLING (R121). -/
def State.returnFromHalt (s : State) : State :=
  if s.ctrl.contact.isSome then s.withState .holding
  else if s.ctrl.assembled then s.enterReady
  else s.enterAssembling

/-- A CLEAR delivered to the halt unit: an attempt in HALTED, nothing in any other state (R118 to R122). -/
def State.clearAttempt (s : State) : State :=
  if s.ctrl.state = .halted then
    match s.remainingCauses with
    | c :: rest => s.failClear c (c :: rest)
    | [] =>
      let s1 := { s with
        halt := { s.halt with causes := [], first := none, grace := some (s.now + Timing.clearGrace) } }
      s1.returnFromHalt.settleFrom .halted
  else s

/-! ## Peer table entries -/

/-- A station number's entry replaced. -/
def State.putEntry (s : State) (station : Nat) (e : Entry) : State :=
  { s with peers := { s.peers with entries := Table.put s.peers.entries station e } }

/-- A station number's request slot replaced (R138). -/
def State.putSlot (s : State) (station : Nat) (x : Option Slot) : State :=
  { s with request := { s.request with slots := Table.put s.request.slots station x } }

end Sys2Proof.Machine
end

