-- ==== Sys2Proof/Machine/JackMeasurement.lean ====
section
/-! DEFINITION. The commands of the measurement unit (chapter 2): encoder samples, the sample timer, the converter read
and the jack switches; with the creep watch (R154, R155) and the stall watch (R152), which a count and a velocity update
step. -/

namespace Sys2Proof.Machine

/-! ## The encoder and the creep watch -/

/-- The creep limit in force; the watch tests only from ASSEMBLING on, where there is a configuration (R154). -/
def StartUnit.creepLimit (u : StartUnit) : Int := (u.config.map Options.creepLimit).getD 0

/-- The extreme stroke moved on with a count in the direction of the drive (R155). -/
def extendExtreme (dir : Direction) (extreme stroke : Int) : Int :=
  match dir with
  | .up => max extreme stroke
  | .down => min extreme stroke

/-- How far a stroke has gone back from the extreme, against the direction of the drive (R155). -/
def goneBack (dir : Direction) (extreme stroke : Int) : Int :=
  match dir with
  | .up => extreme - stroke
  | .down => stroke - extreme

/-- The creep watch at one count: the drive unit after it, and whether CREEP is raised. While the brake is SET or
RELEASING the stroke is held against the reference (R154), while it is RELEASED against the extreme (R155); either is
taken afresh when CREEP is raised. -/
def Drive.watchCreep (d : Drive) (limit stroke : Int) : Drive × Bool :=
  match d.brake, d.extreme with
  | .released, some x =>
    if limit < goneBack d.direction x stroke then ({ d with extreme := some stroke }, true)
    else ({ d with extreme := some (extendExtreme d.direction x stroke) }, false)
  | .released, none => (d, false)
  | _, _ =>
    if limit < |stroke - d.creepReference| then ({ d with creepReference := stroke }, true) else (d, false)

/-- One count of the stroke counter: the creep watch judges it from ASSEMBLING on (R154, R156), and the state controller
re-evaluates its predicates, which read the own lift (R13, R37). A CREEP is taken first (R28, log entry 9). -/
def State.countEdge (s : State) (stroke : Int) : State :=
  let s1 := { s with meas := { s.meas with stroke := stroke } }
  if s1.ctrl.state.isOperating then
    let w := s1.drive.watchCreep s1.start.creepLimit stroke
    let s2 := { s1 with drive := w.1 }
    (if w.2 then s2.takeCauses [.creep] else s2).settle
  else s1

/-- ENCODER_EDGE (R32 to R34): one edge counted with saturation, or a phase error, which raises SENSOR. A step that the
saturated counter does not count is no count. -/
def execEncoderEdge (t : Time) (a b : Bool) (s : State) : Host.Outcome State Fault Refusal :=
  s.onEvent t (fun s =>
    let step := encoderStep s.meas.encoderA s.meas.encoderB a b
    let s1 := { s with meas := { s.meas with encoderA := a, encoderB := b } }
    match step with
    | .unchanged => s1
    | .phaseError => s1.takeCauses [.sensor]
    | _ =>
      let stroke := countStroke s1.meas.stroke step
      if stroke = s1.meas.stroke then s1 else s1.countEdge stroke)

/-! ## The sample timer and the stall watch -/

/-- The stroke latched, the ring pushed and the velocity formed at a sample-timer expiry (R35, R36). -/
def Measurement.sample (m : Measurement) : Measurement :=
  let ring := pushRing m.ring m.ringFilled m.stroke
  { m with latchedStroke := m.stroke, ring := ring, ringFilled := true, velocity := ringVelocity ring }

/-- The stall counter after a velocity update (R152): up by 1 while RELEASED with d_min or more applied and a velocity of
-1..1, else 0. -/
def Drive.stallAfter (d : Drive) (dMin : Nat) (velocity : Int) : Nat :=
  if d.brake = .released ∧ dMin ≤ d.applied ∧ -1 ≤ velocity ∧ velocity ≤ 1 then d.stall + 1 else 0

/-- A velocity update at the drive unit: the stall counter steps, and at 100 it raises STALL and returns to 0
(R152, R153). -/
def State.velocityUpdate (s : State) : State :=
  let n := s.drive.stallAfter s.start.dMin s.meas.velocity
  if n < 100 then { s with drive := { s.drive with stall := n } }
  else { s with drive := { s.drive with stall := 0 } }.takeCauses [.stall]

/-- SAMPLE_TIMER_EXPIRY (R35): latch, push, velocity, the velocity update, and a converter read begun (R38). -/
def execSampleTimerExpiry (s : State) : Host.Outcome State Fault Refusal :=
  s.onTimer s.meas.sampleTimer (fun due s =>
    { s with meas := { s.meas.sample with
        sampleTimer := some (due + Timing.samplePeriod)
        converterRead := some (s.now + Timing.converterRead) } }.velocityUpdate)

/-! ## The converter port's lines (R38) -/

/-- The beginning of the first clock period of the read that ends at `due`, from the read's beginning (log entry 24). -/
def converterFirstClock (due : Time) : Time := Config.converterLead due

/-- The release of the select line in the read that ends at `due`, from the read's beginning: after the 16 clock periods
and not after the read's end (R38, log entry 24). -/
def converterRelease (due : Time) : Time :=
  min (converterFirstClock due + Timing.converterClocks + Config.converterTrail due) Timing.converterRead

/-- The select line at a moment: asserted from the beginning of a converter read until it is released after the clock
periods, and released by a reset, which abandons the read (R31, R38). -/
def Measurement.selectLine (m : Measurement) (t : Time) : Bool :=
  m.converterRead.any (fun due =>
    decide (due ≤ t + Timing.converterRead ∧ t + Timing.converterRead < due + converterRelease due))

/-- The number, from 0, of the clock period that runs on the clock line at a moment; none outside the 16 periods of a
converter read (R38). Sample k + 1 of the data line is taken in period k. -/
def Measurement.clockPeriod (m : Measurement) (t : Time) : Option Nat :=
  m.converterRead.bind (fun due =>
    let first := due + converterFirstClock due
    if first ≤ t + Timing.converterRead ∧ t + Timing.converterRead < first + Timing.converterClocks then
      some ((t + Timing.converterRead - first) / Timing.converterClock)
    else none)

/-! ## The converter read and the confirmation counters -/

/-- A counter's step at a good sample: down by 1 when its test holds, back to 5 when it fails; a stopped counter is not
stepped (R42). -/
def Counter.step (c : Counter) (holds : Bool) : Counter :=
  if c.running then { c with value := if holds then c.value - 1 else 5 } else c

/-- A running counter has been brought to 0 (R43, R44, R46). -/
def Counter.done (c : Counter) : Bool := c.running && c.value == 0

/-- A miss restarts a running counter (R42). -/
def Counter.restart (c : Counter) : Counter := if c.running then { c with value := 5 } else c

/-- The overload count after a good sample (R45). -/
def Measurement.overloadStep (m : Measurement) (limit load : Nat) : Nat :=
  if limit ≤ load then min (m.overloadCount + 1) 3 else 0

/-- The overload condition after a good sample (R45): present at a count of 3, kept above the limit, gone below it. -/
def Measurement.overloadAfter (m : Measurement) (limit load : Nat) : Bool :=
  decide (limit ≤ load) && (m.overload || m.overloadStep limit load == 3)

/-- The unseat counter's test: the lift of the latched stroke at or above the unseat lift, and the load below the release
threshold (R46). -/
def State.unseatTest (s : State) (load : Nat) : Bool :=
  match s.start.config, s.ctrl.contact with
  | some o, some c => decide (o.unseatLift ≤ clampLift (s.meas.latchedStroke - c)) && decide (load < o.releaseThreshold)
  | _, _ => false

/-- Load at or above the contact threshold (R43, R93). -/
def StartUnit.atContact (u : StartUnit) (load : Nat) : Bool :=
  match u.config with
  | some o => decide (o.contactThreshold ≤ load)
  | none => false

/-- Load below the release threshold (R44). -/
def StartUnit.belowRelease (u : StartUnit) (load : Nat) : Bool :=
  match u.config with
  | some o => decide (load < o.releaseThreshold)
  | none => false

/-- The measurement unit after a good sample (R39, R40, R42 to R46). An unseat counter that reaches 0 returns to 5. -/
def State.goodSample (s : State) (load : Nat) : Measurement :=
  let limit := s.start.overloadLimitInForce
  let unseat := s.meas.unseat.step (s.unseatTest load)
  { s.meas with
    load := load
    missCount := 0
    silent := false
    contact := s.meas.contact.step (s.start.atContact load)
    release := s.meas.release.step (s.start.belowRelease load)
    unseat := if unseat.done then .started else unseat
    overloadCount := s.meas.overloadStep limit load
    overload := s.meas.overloadAfter limit load }

/-- The causes a good sample raises, as one event: OVERLOAD at the onset of its condition, UNSEAT when its counter
reaches 0 (R45, R46, R50). -/
def State.sampleCauses (s : State) (load : Nat) : List Cause :=
  (if s.meas.overloadAfter s.start.overloadLimitInForce load && !s.meas.overload then [.overload] else [])
    ++ (if (s.meas.unseat.step (s.unseatTest load)).done then [.unseat] else [])

/-- Contact confirmed in SEATING: the contact record takes the latched stroke, and the station enters HOLDING (R14, R22,
R43). -/
def State.contactConfirmed (s : State) : State :=
  { s with ctrl := { s.ctrl with contact := some s.meas.latchedStroke, state := .holding } }.settleFrom .seating

/-- Release confirmed in UNSEATING: the contact record is discarded, and the station enters READY, tested (R27, R44). -/
def State.releaseConfirmed (s : State) : State :=
  { s with ctrl := { s.ctrl with contact := none } }.enterReady.settleFrom .unseating

/-- The confirmations handed to the state controller, which acts on them in SEATING and UNSEATING alone (R50). -/
def State.confirm (s : State) : State :=
  if s.ctrl.state = .seating ∧ s.meas.contact.done = true then s.contactConfirmed
  else if s.ctrl.state = .unseating ∧ s.meas.release.done = true then s.releaseConfirmed
  else s

/-- The jog contact clamp begins between expiries: the load reaches the contact threshold in JOG with direction UP
(R94). -/
def State.jogClampAtOnce (s : State) (before : Nat) : State :=
  if s.ctrl.state = .jog ∧ s.ctrl.jogDirection = .up ∧ s.start.atContact before = false
      ∧ s.start.atContact s.meas.load = true then
    { s with engine := s.engine.clampAtOnce }.handOver
  else s

/-- A good sample: the measurement unit, then its causes as one event, then its confirmations, which a halt of the same
sample has overtaken (R28, log entry 9), and the jog clamp. -/
def State.takeSample (s : State) (raw : Nat) : State :=
  let load := scaleLoad s.start.zeroInForce s.start.fullScaleInForce raw
  let s1 := { s with meas := s.goodSample load }
  ((s1.takeCauses (s.sampleCauses load)).confirm).jogClampAtOnce s.meas.load

/-- The measurement unit after a miss (R41, R42): the load held, the miss count up to 5, silent at the fifth, every
running counter restarted, the overload condition left as it stands. -/
def Measurement.miss (m : Measurement) : Measurement :=
  { m with
    missCount := min (m.missCount + 1) 5
    silent := decide (5 ≤ m.missCount + 1)
    contact := m.contact.restart
    release := m.release.restart
    unseat := m.unseat.restart
    overloadCount := 0 }

/-- A miss; the one that makes the converter silent raises SENSOR (R41). -/
def State.takeMiss (s : State) : State :=
  let s1 := { s with meas := s.meas.miss }
  if s1.meas.silent && !s.meas.silent then s1.takeCauses [.sensor] else s1

/-- CONVERTER_READ_END (R39): the read in progress ends with a good sample or a miss. -/
def execConverterReadEnd (reply : BitVec 16) (s : State) : Host.Outcome State Fault Refusal :=
  s.onTimer s.meas.converterRead (fun _ s =>
    let s1 := { s with meas := { s.meas with converterRead := none } }
    match sortReply reply with
    | .good raw => s1.takeSample raw
    | .miss => s1.takeMiss)

/-! ## The jack switches -/

/-- The filtered state of a switch. -/
def Measurement.switch (m : Measurement) : JackSwitch → Bool
  | .upperEnd => m.upperEnd
  | .lowerEnd => m.lowerEnd
  | .overtravel => m.overtravel

/-- The moment from which the filter of a switch times its input (R47). -/
def Measurement.switchFrom (m : Measurement) : JackSwitch → Option Time
  | .upperEnd => m.upperEndFrom
  | .lowerEnd => m.lowerEndFrom
  | .overtravel => m.overtravelFrom

/-- The filtered state of a switch changed at a moment, from which its filter times the next change (R47). -/
def Measurement.setSwitch (m : Measurement) (active : Bool) (now : Time) : JackSwitch → Measurement
  | .upperEnd => { m with upperEnd := active, upperEndFrom := some now }
  | .lowerEnd => { m with lowerEnd := active, lowerEndFrom := some now }
  | .overtravel => { m with overtravel := active, overtravelFrom := some now }

/-- An end switch turns active: the commanded output becomes 0 at once in a moving state whose direction is toward it
(R94). -/
def State.endClampAtOnce (s : State) (dir : Direction) : State :=
  if s.ctrl.state.motion s.ctrl.jogDirection = some dir then
    { s with engine := s.engine.clampAtOnce }.handOver
  else s

/-- SWITCH_FILTER_CHANGE (R47 to R49), 5 ms or more after the last change: a level that is the filtered level already is no
change. -/
def execSwitchFilterChange (t : Time) (switch : JackSwitch) (active : Bool) (s : State) :
    Host.Outcome State Fault Refusal :=
  if active = s.meas.switch switch then .next s
  else
    s.onFilter t (s.meas.switchFrom switch) Timing.switchFilter (fun s =>
      let s1 := { s with meas := s.meas.setSwitch active s.now switch }
      if active then
        match switch with
        | .upperEnd => s1.endClampAtOnce .up
        | .lowerEnd => s1.endClampAtOnce .down
        | .overtravel => s1.takeCauses [.overtravel]
      else s1)

end Sys2Proof.Machine
end

