-- ==== Sys2Proof/Machine/LiftBus.lean ====
section
/-! DEFINITION. The commands of the bus interface (chapter 9): the report timer, access to the line, the end of a send
attempt, a waiting token's limit, and what is seen on the line. -/

namespace Sys2Proof.Machine

/-- REPORT_TIMER_EXPIRY (R176): a scheduled report to the transmit queue, and the timer restarts at its own pace with the
interval of the state that stands. -/
def execReportTimerExpiry (s : State) : Host.Outcome State Fault Refusal :=
  s.onTimer (s.bus.reportTimer.map ReportTimer.due) (fun due s =>
    let p := s.ctrl.state.period
    { s with bus := { s.bus.scheduleReport s.now with
        reportTimer := some { due := due + p.interval, interval := p } } })

/-! ## Access (R178, R179) -/

/-- The moment the access wait reaches the station's gap with the retry offset: it counts idle bit times from its
beginning and from the last stop bit (R178). Nothing waits without a token, a wait, or while an attempt is in progress. -/
def State.accessMoment (s : State) : Option Time :=
  match s.bus.attempt, s.bus.front, s.bus.accessWait with
  | none, some _, some w => some (max w s.bus.idleFrom + accessGap s.ownNumber + s.bus.retryOffset)
  | _, _, _ => none

/-- The frame of a place's token, with its content as it stands (R179). -/
def State.frameOf (s : State) : Place → List Byte
  | .report => (s.reportFields (s.bus.report.any ReportToken.prompt)).chars
  | .motion => (s.requestFields ((s.bus.motion.map (fun t => t.kind.code)).getD codeRaise)).chars
  | .clear => (s.requestFields codeClear).chars

/-- An attempt begun with the token of a place: its frame is taken, the wait is over, and the retry offset returns to 0
(R178, R179, R181). The station's own start bit is on the line, after more than 12 bit times of idle: the idle measure
starts again after its character, and the receiver, which hears the station's own frame, takes it (R170, R171). -/
def State.beginAttempt (s : State) (p : Place) : State :=
  { s with bus := { s.bus with
      attempt := some { place := p, began := s.now, frame := s.frameOf p }
      accessWait := none
      retryOffset := 0
      receiver := .takingFrame
      idleFrom := max s.bus.idleFrom (s.now + Timing.character) } }

/-- ACCESS_GAINED (R178): an attempt begins with the token at the front of the queue (R175). -/
def execAccessGained (s : State) : Host.Outcome State Fault Refusal :=
  s.onTimer s.accessMoment (fun _ s =>
    match s.bus.front with
    | some p => s.beginAttempt p
    | none => s)

/-! ## The end of an attempt (R180 to R182) -/

/-- The end of an attempt: the line is released, and idle from `idleFrom` (R170, R180). -/
def Bus.endAttempt (b : Bus) (receiver : Receiver) (idleFrom : Time) : Bus :=
  { b with attempt := none, receiver := receiver, idleFrom := max b.idleFrom idleFrom }

/-- The prompt-spent flag after a token of a place is sent: set by a report with the prompt mark, cleared by one without
it (R177, R180). -/
def Bus.spentAfter (b : Bus) (p : Place) : Bool :=
  match p, b.report with
  | .report, some t => t.prompt
  | _, _ => b.promptSpent

/-- A frame sent, whose last character ends the frame at the own receiver too (R171): its token leaves its place, the
prompt-spent flag follows, the pending requests are judged, and the access wait begins again if the queue is not empty
(R180). -/
def Bus.frameSent (b : Bus) (p : Place) (now : Time) (period : PeriodClass) : Bus :=
  (({ (b.endAttempt .waitingForIdle now).emptyPlace p with
      promptSpent := b.spentAfter p }).judgePending now period).waitAgain now

/-- ATTEMPT_SENT (R180): at the end of the last stop bit of the frame. -/
def execAttemptSent (s : State) : Host.Outcome State Fault Refusal :=
  s.onTimer (s.bus.attempt.map (fun a => a.began + Timing.character * a.frame.length)) (fun _ s =>
    match s.bus.attempt with
    | some a => { s with bus := s.bus.frameSent a.place s.now s.ctrl.state.period }
    | none => s)

/-- A token is dropped at the end of an abandoned attempt: its sixteenth, or one that ends more than 10 ms after its
entry (R182). -/
def Bus.dropsToken (b : Bus) (p : Place) (now : Time) : Bool :=
  decide (16 ≤ b.attemptsOf p) || (b.enteredAt p).any (fun t => decide (t + Timing.tokenLimit < now))

/-- The pending requests judged, and the wait for the next token begun (R180, R182). -/
def State.judgeQueue (s : State) : State :=
  { s with bus := (s.bus.judgePending s.now s.ctrl.state.period).waitAgain s.now }

/-- The receiver at the end of an abandoned attempt. A first character that was read back changed started no frame, and a
line held past a stop bit is a framing error; after any other character the receiver goes on with the frame it hears
(R171, R172). -/
def Bus.receiverAfter (b : Bus) (broken : BrokenCharacter) : Receiver :=
  if broken.number ≤ 1 ∨ 0 < broken.held then .waitingForIdle else b.receiver

/-- An attempt abandoned at a character: the line is idle when it is no longer held (R170), the failure is counted and the
retry offset of the next access formed (R180, R181); at a limit the token is dropped and BUS_BLOCKED raised (R182); then
the pending requests are judged. -/
def State.abandonAttempt (s : State) (p : Place) (broken : BrokenCharacter) : State :=
  let b1 := (s.bus.endAttempt (s.bus.receiverAfter broken) (s.now + broken.held)).countFailure p
  let b2 := { b1 with retryOffset := retryOffset s.start.unitNumber (b1.attemptsOf p) }
  if b2.dropsToken p s.now then ({ s with bus := b2.emptyPlace p }.takeCauses [.busBlocked]).judgeQueue
  else { s with bus := b2 }.judgeQueue

/-- ATTEMPT_ABANDONED (R180 to R182): the bus interface stops driving at the end of the stop bit of the character that
was read back changed. -/
def execAttemptAbandoned (broken : BrokenCharacter) (s : State) : Host.Outcome State Fault Refusal :=
  s.onTimer (s.bus.attempt.map (fun a => a.began + Timing.character * min broken.number a.frame.length)) (fun _ s =>
    match s.bus.attempt with
    | some a => s.abandonAttempt a.place broken
    | none => s)

/-- The moment a waiting token of a place has waited 10 ms; a token under attempt does not wait (R182). -/
def Bus.limitOf (b : Bus) (p : Place) : Option Time :=
  if b.underAttempt p then none else (b.enteredAt p).map (· + Timing.tokenLimit)

/-- A waiting token dropped: its place empties, and a queue left empty seeks no access (R175, R182). -/
def Bus.dropWaiting (b : Bus) (p : Place) : Bus :=
  let b1 := b.emptyPlace p
  { b1 with accessWait := if b1.isEmpty then none else b1.accessWait }

/-- TOKEN_TIMEOUT (R182): the token is dropped and BUS_BLOCKED raised. -/
def execTokenTimeout (place : Place) (s : State) : Host.Outcome State Fault Refusal :=
  s.onTimer (s.bus.limitOf place) (fun _ s => { s with bus := s.bus.dropWaiting place }.takeCauses [.busBlocked])

/-! ## The line (R170 to R172, R178) -/

/-- The receiver after a character whose start bit is seen at a moment (R171, R172). A framing error leaves it waiting for
idle. A character of a frame it is taking, its own attempt's or one with no more than 12 bit times of idle before it,
leaves it taking the frame. Otherwise a frame starts at a character of value A5h after at least 12 bit times of idle, and
at no other. -/
def Bus.receiverAt (b : Bus) (now : Time) (character : Option Byte) : Receiver :=
  match character with
  | none => .waitingForIdle
  | some c =>
    if b.receiver = .takingFrame ∧ (b.attempt.isSome = true ∨ now ≤ b.idleFrom + Timing.frameIdle) then .takingFrame
    else if b.idleFrom + Timing.frameIdle ≤ now ∧ c = startCharacter then .takingFrame
    else .waitingForIdle

/-- A start bit on the line, with its character: the idle measure, and with it the access wait, starts again from 0 at the
end of the character's stop bit, or, where that is read at the drive level, when the line is no longer held there
(R170, R178). -/
def Bus.startBit (b : Bus) (now : Time) (levels : BitVec 9) (held : Time) : Bus :=
  let character := readCharacter levels
  { b with
    receiver := b.receiverAt now character
    idleFrom := max b.idleFrom (now + Timing.character + (if character.isSome then 0 else held)) }

/-- START_BIT_SEEN (R178). -/
def execStartBitSeen (seen : LineCharacter) (s : State) : Host.Outcome State Fault Refusal :=
  s.onEvent seen.moment (fun s => { s with bus := s.bus.startBit s.now seen.levels seen.held })

/-- The moment from which the line is idle after a frame is discarded at a moment (R170, R172): an idle gap ends at no stop
bit, and after a framing error the line may be held at the drive level. -/
def Bus.idleAfter (b : Bus) (now : Time) : DiscardReason → Time
  | .idleGap => b.idleFrom
  | .framingError held => max b.idleFrom (now + held)
  | _ => max b.idleFrom now

/-- RECEIVED_FRAME_DISCARDED (R172): the frame reaches no other block, and the receiver waits for 12 bit times of idle from
the last stop bit. -/
def execReceivedFrameDiscarded (t : Time) (reason : DiscardReason) (s : State) : Host.Outcome State Fault Refusal :=
  s.onEvent t (fun s =>
    { s with bus := { s.bus with receiver := .waitingForIdle, idleFrom := s.bus.idleAfter s.now reason } })

end Sys2Proof.Machine
end

