-- ==== Sys2Proof/Machine/Motion.lean ====
section
/-! DEFINITION. The control-timer expiry of the synchronisation engine (chapter 4) and the two timers of the drive unit
(chapter 7). -/

namespace Sys2Proof.Machine

/-! ## Prediction, reference and lead (R81 to R85) -/

/-- The age of an entry in whole milliseconds, capped at 100 (R81). -/
def ageMs (now arrival : Time) : Nat := min ((now - arrival) / 1000) Timing.ageCapMs

/-- The predicted lift L + trunc(v × a / 100), clamped to 0..200000 (R82). -/
def predictedLift (lift : Nat) (velocity : Int) (age : Nat) : Nat :=
  clampLift ((lift : Int) + Int.tdiv (velocity * age) 100)

/-- A member's predicted lift with its body index: of a FRESH member entry that holds a lift (R81). -/
def Entry.predict (now : Time) (e : Entry) : Option (Nat × Nat) :=
  match e.content, e.lastArrival with
  | some c, some arrival =>
    if e.member = true ∧ e.status = .fresh then
      c.lift.map (fun lift => (c.bodyIndex, predictedLift lift c.velocity (ageMs now arrival)))
    else none
  | _, _ => none

/-- The predictions of every member, body index and lift (R81). -/
def State.predictions (s : State) : List (Nat × Nat) := s.peers.entries.toList.filterMap (Entry.predict s.now)

/-- The reference: the least lift when raising, the greatest when lowering (R84). -/
def reference (dir : Direction) (own : Nat) (members : List Nat) : Nat :=
  match dir with
  | .up => members.foldl min own
  | .down => members.foldl max own

/-- The lead of the own lift over the reference, in the direction of motion (R85). -/
def lead (dir : Direction) (own ref : Nat) : Nat :=
  match dir with
  | .up => own - ref
  | .down => ref - own

/-- The lead of the station when moving in a direction (R83 to R85). -/
def State.leadOf (s : State) (dir : Direction) : Nat :=
  lead dir (s.ownLift.getD 0) (reference dir (s.ownLift.getD 0) (s.predictions.map Prod.snd))

/-! ## Demand, clamps, ramp (R89 to R97) -/

/-- The demand formed from the lead (R90). -/
def leadDemand (o : Options) (ceiling lead : Nat) : Nat :=
  if o.window ≤ lead then 0 else max o.dMin (ceiling * (o.window - lead) / o.window)

/-- The demand of a state (R89). -/
def State.demand (s : State) (o : Options) (ceiling : Nat) : Nat :=
  match s.ctrl.state with
  | .lifting => leadDemand o ceiling (s.leadOf .up)
  | .lowering => leadDemand o ceiling (s.leadOf .down)
  | .seating => ceiling
  | .unseating => if s.command = .lower then ceiling else 0
  | .jog => ceiling
  | _ => 0

/-- Whether a clamp sets the demand to 0: an end switch in the direction of motion (R91), the landing clamp (R92), the
jog contact clamp (R93). -/
def State.clamped (s : State) (o : Options) : Bool :=
  let dir := s.ctrl.state.motion s.ctrl.jogDirection
  (dir == some .up && s.meas.upperEnd)
    || (dir == some .down && s.meas.lowerEnd)
    || (s.ctrl.state == .lowering && s.unclampedLift.any (fun x => decide (x ≤ 0)))
    || (s.ctrl.state == .jog && dir == some .up && decide (o.contactThreshold ≤ s.meas.load))

/-- The clamped demand (R91 to R93); 0 without a configuration, in START and CONFIG_FAULT (R78). -/
def State.clampedDemand (s : State) : Nat :=
  match s.start.config with
  | some o => if s.clamped o then 0 else s.demand o (s.start.ceiling s.ctrl.state)
  | none => 0

/-- The ramp: a rise of at most R, a fall taken at once (R95). -/
def ramp (rise previous demand : Nat) : Nat :=
  if previous < demand then min demand (previous + rise) else demand

/-- The ramp rise in force. -/
def StartUnit.rise (u : StartUnit) : Nat := (u.config.map Options.ramp).getD 0

/-- The engine after a control-timer expiry: the direction kept or changed, the previous output taken as 0 at a direction
change, the ramp, and the final clamp at the ceiling (R86, R95 to R97). -/
def Engine.expiry (e : Engine) (due : Time) (ceiling demand rise : Nat) (motion : Option Direction) : Engine :=
  let d := motion.getD e.direction
  let previous := if d = e.direction then e.commanded else 0
  { controlTimer := some (due + Timing.controlPeriod)
    commanded := min (ramp rise previous demand) ceiling
    direction := d
    lastCeiling := ceiling }

/-! ## Spread (R100 to R102) -/

/-- The greatest less the least of the own lift and the lifts given (R100, R101). -/
def spread (own : Nat) (lifts : List Nat) : Nat := lifts.foldl max own - lifts.foldl min own

/-- The causes of the spread checks at an expiry, as one event (R100 to R102): they run in HOLDING, LIFTING, LOWERING and
PARKED. -/
def State.spreadCauses (s : State) : List Cause :=
  match s.start.config with
  | some o =>
    if s.ctrl.state.isSeated then
      let own := s.ownLift.getD 0
      let body := (s.predictions.filter (fun p => p.1 == o.bodyIndex)).map Prod.snd
      (if o.spreadSet < spread own (s.predictions.map Prod.snd) then [.spreadSet] else [])
        ++ (if o.spreadBody < spread own body then [.spreadBody] else [])
    else []
  | none => []

/-- The engine's output formed and handed over at an expiry (R78, R99). -/
def State.formOutput (s : State) (due : Time) : State :=
  { s with
    engine := s.engine.expiry due (s.start.ceiling s.ctrl.state) s.clampedDemand s.start.rise
      (s.ctrl.state.motion s.ctrl.jogDirection) }.handOver

/-- CONTROL_TIMER_EXPIRY (R78): the output is formed and handed over, and the spread checks raise their causes. -/
def execControlTimerExpiry (s : State) : Host.Outcome State Fault Refusal :=
  s.onTimer s.engine.controlTimer (fun due s => (s.formOutput due).takeCauses s.spreadCauses)

/-! ## The timers of the drive unit -/

/-- RELEASE_TIMER_EXPIRY (R147): the brake becomes RELEASED, the commanded output as last handed over is applied, and the
extreme stroke is taken. -/
def execReleaseTimerExpiry (s : State) : Host.Outcome State Fault Refusal :=
  s.onTimer s.drive.releaseTimer (fun _ s =>
    { s with drive := { s.drive with
        brake := .released
        releaseTimer := none
        applied := s.drive.commandedCopy
        extreme := some s.meas.stroke } })

/-- SET_DELAY_EXPIRY (R148): the brake becomes SET, the creep reference is taken, the extreme becomes absent. -/
def execSetDelayExpiry (s : State) : Host.Outcome State Fault Refusal :=
  s.onTimer s.drive.setDelay (fun _ s =>
    { s with drive := { s.drive.setBrake with creepReference := s.meas.stroke } })

end Sys2Proof.Machine
end

