-- ==== Sys2Proof/Machine/PeerFrames.lean ====
section
/-! DEFINITION. The commands of received frames and of the peer table's and request table's deadlines (chapters 3, 5, 6
and 9). -/

namespace Sys2Proof.Machine

/-! ## Arrival (R170 to R172) -/

/-- The end of a frame's last stop bit: the line is idle from it, and the receiver waits for 12 bit times of idle before
it takes a new frame start (R170 to R172). -/
def Bus.frameEnd (b : Bus) (now : Time) : Bus :=
  { b with receiver := .waitingForIdle, idleFrom := max b.idleFrom now }

/-- A frame's arrival at the receiver, in every state (R171). -/
def State.arrive (s : State) : State := { s with bus := s.bus.frameEnd s.now }

/-- Whether the receiver takes a frame that arrives: it is taking one, or the frame's characters began after at least 12
bit times of idle (R171). Otherwise the characters belong to no frame and are ignored. -/
def Bus.takesFrame (b : Bus) (now : Time) (chars : List Byte) : Bool :=
  b.receiver == .takingFrame || decide (b.idleFrom + Timing.frameIdle + Timing.character * chars.length ≤ now)

/-- The frame the receiver hands on at an arrival: one it takes, that passes its checks (R171, R172). -/
def State.received (s : State) (chars : List Byte) : Option Frame :=
  if s.bus.takesFrame s.now chars then receive chars else none

/-! ## The own-number checks (R58 to R60) -/

/-- A frame bearing the own station number and another unit number: the number-clash indication is held 1500 ms from its
arrival (R59), DUPLICATE is raised in the loaded states and HALTED, and elsewhere the assembly does not hold (R60). -/
def State.numberClash (s : State) : State :=
  let s1 := { s with peers := { s.peers with clashHold := some (s.now + Timing.clashHold) } }
  (if s1.ctrl.state.raisesPeerCauses then s1.takeCauses [.duplicate] else s1).settle

/-- The echo and clash checks on a frame of either kind (R56, checks 2 and 3), before `rest`; no check is made in START
and CONFIG_FAULT (R52). -/
def State.ownChecks (s : State) (station unitNumber : Nat) (rest : State → State) : State :=
  if !s.ctrl.state.isOperating then s
  else if station = s.ownNumber then
    if unitNumber = s.start.unitNumber then s else s.numberClash
  else rest s

/-! ## Reports (R61 to R72) -/

/-- A cause of the peer table, raised for a member in the loaded states and HALTED alone (R62, R68, R74). -/
def State.memberFault (s : State) (e : Entry) (c : Cause) : State :=
  if e.member && s.ctrl.state.raisesPeerCauses then s.takeCauses [c] else s

/-- A duplicate: the entry is contested until 1500 ms after it, and DUPLICATE is raised for a member (R61, R62). -/
def State.duplicateReport (s : State) (station : Nat) (e : Entry) : State :=
  ((s.putEntry station { e with contested := true, contestDeadline := some (s.now + Timing.contest) }).memberFault e
    .duplicate).settle

/-- A report is taken under a new unit number: at an EMPTY entry, or at a STALE one with another unit number (R63). -/
def Entry.takesUnit (e : Entry) (unitNumber : Nat) : Bool :=
  e.status == .empty || (e.status == .stale && e.content.map Content.unitNumber != some unitNumber)

/-- The bookkeeping started afresh for a new unit number (R63). -/
def Entry.afresh (e : Entry) : Entry := { e with lastScheduled := none, early := false, allowance := .available }

/-- The timing test: less than one quarter of the entry's period class since its last scheduled arrival (R66). -/
def Entry.isEarly (e : Entry) (now : Time) : Bool :=
  match e.lastScheduled, e.content with
  | some last, some c => decide (now < last + c.period.interval / 4)
  | _, _ => false

/-- A report passes on the prompt allowance (R65). -/
def Entry.onAllowance (e : Entry) (prompt : Bool) : Bool := prompt && e.allowance == .available

/-- An early report: discarded, with the early mark; a second one makes the entry faulty, and raises BABBLE for a member
(R67, R68). -/
def State.earlyReport (s : State) (station : Nat) (e : Entry) : State :=
  if e.early then ((s.putEntry station { e with faulty := true }).memberFault e .babble).settle
  else (s.putEntry station { e with early := true }).settle

/-- The entry after an accepted report (R65, R69): content, status, stamps, marks, allowance and stale deadline. -/
def Entry.accept (e : Entry) (now : Time) (c : Content) (prompt : Bool) : Entry :=
  { e with
    content := some c
    status := .fresh
    lastArrival := some now
    lastScheduled := if prompt then e.lastScheduled else some now
    early := if prompt then e.early else false
    allowance := if prompt then .spent else .available
    staleDeadline := some (now + 3 * c.period.interval) }

/-- An accepted report at a member entry is a restart of that member (R70): a new unit number, or a fresh flag that the
entry did not carry. -/
def Entry.isRestart (e : Entry) (c : Content) : Bool :=
  e.member && (e.takesUnit c.unitNumber || (c.fresh && e.content.any (fun old => !old.fresh)))

/-- An accepted report at a member entry with another digest than the own (R71). -/
def Entry.isMismatch (e : Entry) (c : Content) (own : Option Word16) : Bool :=
  e.member && decide (own ≠ some c.digest)

/-- The causes an accepted report raises, as one event (R69 to R72). -/
def State.reportCauses (s : State) (e : Entry) (c : Content) : List Cause :=
  (if e.isRestart c && s.ctrl.state.raisesPeerCauses then [.peerRestart] else [])
    ++ (if e.isMismatch c s.start.digest && s.ctrl.state.raisesPeerCauses then [.configMismatch] else [])
    ++ (if e.member && c.state == .halted && s.ctrl.assembled && s.halt.grace.isNone then [.peerHalted] else [])

/-- The origin a report of HALTED carries (R72, R109). -/
def Content.origin (c : Content) : Nat := (c.firstCause.map Prod.snd).getD 0

/-- A report is accepted: the entry is updated, its causes are raised as one event, a restart in READY or JOG is signalled
as an assembly loss, and the state controller re-evaluates its predicates (R69 to R72). -/
def State.acceptReport (s : State) (station : Nat) (e : Entry) (c : Content) (prompt : Bool) : State :=
  let taken := if e.takesUnit c.unitNumber then e.afresh else e
  let s1 := s.putEntry station (taken.accept s.now c prompt)
  let s2 := s1.takeCauses (s.reportCauses e c) c.origin
  (if e.isRestart c then s2.assemblyLoss else s2).settle

/-- A report of another station number at its entry, by the checks 5 to 8 of R56. -/
def State.reportAtEntry (s : State) (station : Nat) (e : Entry) (c : Content) (prompt : Bool) : State :=
  if e.status = .fresh ∧ e.content.map Content.unitNumber ≠ some c.unitNumber then s.duplicateReport station e
  else if e.status = .fresh ∧ e.faulty = true then s
  else
    let taken := if e.takesUnit c.unitNumber then e.afresh else e
    if taken.onAllowance prompt then s.acceptReport station e c prompt
    else if taken.isEarly s.now then s.earlyReport station e
    else s.acceptReport station e c prompt

/-- A report frame examined in the order of R56: content, echo, clash, unit number, faulty, early, accept. -/
def State.examineReport (s : State) (r : ReportFields) : State :=
  match r.content with
  | some c =>
    s.ownChecks r.station.toNat c.unitNumber (fun s =>
      match Table.get s.peers.entries r.station.toNat with
      | some e => s.reportAtEntry r.station.toNat e c r.prompt
      | none => s)
  | none => s

/-- REPORT_FRAME (R56). Characters that are no frame are ignored (R171), and a frame that fails the receiver's checks is
discarded (R172). -/
def execReportFrame (t : Time) (chars : List Byte) (s : State) : Host.Outcome State Fault Refusal :=
  s.onEvent t (fun s =>
    match s.received chars with
    | some (.report r) => s.arrive.examineReport r
    | _ => s.arrive)

/-! ## Request frames (R136 to R139) -/

/-- Whether a request frame is accepted: the assembled flag set, the sender's entry a member, not faulty, and holding the
frame's unit number (R76, R136). -/
def State.acceptsRequest (s : State) (e : Entry) (unitNumber : Nat) : Bool :=
  s.ctrl.assembled && e.member && !e.faulty && e.content.map Content.unitNumber == some unitNumber

/-- A RAISE or LOWER frame at the request unit: accepted, it fills the sender's slot and the group command is formed
again (R136, R138, R140). -/
def State.takeRequest (s : State) (station unitNumber : Nat) (k : RequestKind) : State :=
  match Table.get s.peers.entries station with
  | some e =>
    if s.acceptsRequest e unitNumber then (s.putSlot station (some { kind := k, stamp := s.now })).settle else s
  | none => s

/-- A CLEAR frame at the request unit: accepted from a FRESH entry, it is a CLEAR to the halt unit (R137). -/
def State.takeClear (s : State) (station unitNumber : Nat) : State :=
  match Table.get s.peers.entries station with
  | some e => if s.acceptsRequest e unitNumber && e.status == .fresh then s.clearAttempt else s
  | none => s

/-- A request frame of the code a command names, after its arrival: the own-number checks, then `rest` with its station
and unit numbers. A frame that the receiver does not hand on, or that is not such a frame, is discarded (R171, R172,
R136). -/
def State.onRequest (s : State) (chars : List Byte) (isCode : Byte → Bool) (rest : Nat → Nat → State → State) : State :=
  match s.received chars with
  | some (.request q) =>
    if isCode q.code then
      s.arrive.ownChecks q.station.toNat q.unitNumber.toNat (rest q.station.toNat q.unitNumber.toNat)
    else s.arrive
  | _ => s.arrive

/-- RAISE_FRAME (R136). -/
def execRaiseFrame (t : Time) (chars : List Byte) (s : State) : Host.Outcome State Fault Refusal :=
  s.onEvent t (fun s => s.onRequest chars (· == codeRaise) (fun n u s => s.takeRequest n u .raise))

/-- LOWER_FRAME (R136). -/
def execLowerFrame (t : Time) (chars : List Byte) (s : State) : Host.Outcome State Fault Refusal :=
  s.onEvent t (fun s => s.onRequest chars (· == codeLower) (fun n u s => s.takeRequest n u .lower))

/-- CLEAR_FRAME (R137). -/
def execClearFrame (t : Time) (chars : List Byte) (s : State) : Host.Outcome State Fault Refusal :=
  s.onEvent t (fun s => s.onRequest chars (· == codeClear) (fun n u s => s.takeClear n u))

/-- A code that is not RAISE, LOWER or CLEAR (R136). -/
def isOtherCode (code : Byte) : Bool := code != codeRaise && code != codeLower && code != codeClear

/-- REQUEST_FRAME_OTHER_CODE (R136): the own-number checks, and then the request unit discards it. -/
def execRequestFrameOtherCode (t : Time) (chars : List Byte) (s : State) : Host.Outcome State Fault Refusal :=
  s.onEvent t (fun s => s.onRequest chars isOtherCode (fun _ _ s => s))

/-- SLOT_WINDOW_EXPIRY (R138): 60 ms after its stamp a slot empties, and the group command is formed again. -/
def execSlotWindowExpiry (station : Nat) (s : State) : Host.Outcome State Fault Refusal :=
  s.onTimer ((Table.get s.request.slots station).join.map (fun x => x.stamp + Timing.commandWindow))
    (fun _ s => (s.putSlot station none).settle)

/-! ## Deadlines of the peer table (R59, R61, R73, R74) -/

/-- The stale deadline of a station number's entry. -/
def State.staleDeadlineOf (s : State) (station : Nat) : Option Time :=
  (Table.get s.peers.entries station).bind Entry.staleDeadline

/-- The contest deadline of a station number's entry. -/
def State.contestDeadlineOf (s : State) (station : Nat) : Option Time :=
  (Table.get s.peers.entries station).bind Entry.contestDeadline

/-- An entry gone STALE: its content and stamps kept, its marks but the member mark clear, the allowance AVAILABLE, its
deadlines stopped (R73). -/
def Entry.goStale (e : Entry) : Entry :=
  { e with
    status := .stale
    staleDeadline := none
    early := false
    allowance := .available
    faulty := false
    contested := false
    contestDeadline := none }

/-- STALE_DEADLINE_EXPIRY (R73): the entry becomes STALE; a member's loss raises PEER_LOST in the loaded states and HALTED
(R74), and the predicates are formed again. -/
def execStaleDeadlineExpiry (station : Nat) (s : State) : Host.Outcome State Fault Refusal :=
  s.onTimer (s.staleDeadlineOf station) (fun _ s =>
    match Table.get s.peers.entries station with
    | some e => ((s.putEntry station e.goStale).memberFault e .peerLost).settle
    | none => s)

/-- CONTEST_DEADLINE_EXPIRY (R61): the contested mark clears. -/
def execContestDeadlineExpiry (station : Nat) (s : State) : Host.Outcome State Fault Refusal :=
  s.onTimer (s.contestDeadlineOf station) (fun _ s =>
    match Table.get s.peers.entries station with
    | some e => (s.putEntry station { e with contested := false, contestDeadline := none }).settle
    | none => s)

/-- CLASH_HOLD_EXPIRY (R59): the number-clash indication is no longer held. -/
def execClashHoldExpiry (s : State) : Host.Outcome State Fault Refusal :=
  s.onTimer s.peers.clashHold (fun _ s => { s with peers := { s.peers with clashHold := none } }.settle)

/-! ## Deadlines of the halt unit and the state controller (R122, R159) -/

/-- CLEAR_GRACE_END (R122): the timer stops; nothing is raised by it. -/
def execClearGraceEnd (s : State) : Host.Outcome State Fault Refusal :=
  s.onTimer s.halt.grace (fun _ s => { s with halt := { s.halt with grace := none } })

/-- PARK_TIMER_EXPIRY (R159): the station enters PARKED from HOLDING. -/
def execParkTimerExpiry (s : State) : Host.Outcome State Fault Refusal :=
  s.onTimer s.ctrl.parkTimer (fun _ s =>
    if s.ctrl.state = .holding then (s.withState .parked).settleFrom .holding else s)

end Sys2Proof.Machine
end

