-- ==== Sys2Proof/Machine/Pendant.lean ====
section
/-! DEFINITION. The commands of the pendant (chapter 6): keys, the mode switch, pendant presence, the request sequence, the
e-stop channels and the REFUSED lamp; with the local jog of the state controller (R18 to R20, R29) and the wake from
PARKED by a key (R165 to R167). -/

namespace Sys2Proof.Machine

/-! ## Keys -/

/-- The inputs of a key. -/
def RequestUnit.key (r : RequestUnit) : Key → KeyInput
  | .raise => r.raiseKey
  | .lower => r.lowerKey
  | .reset => r.resetKey

/-- A key's inputs written. -/
def RequestUnit.setKey (r : RequestUnit) (k : KeyInput) : Key → RequestUnit
  | .raise => { r with raiseKey := k }
  | .lower => { r with lowerKey := k }
  | .reset => { r with resetKey := k }

/-- A key's filtered state changed now; its filter times the next change from here (R126). -/
def State.setPressed (s : State) (key : Key) (pressed : Bool) : State :=
  let k := { s.request.key key with pressed := pressed, filterFrom := some s.now }
  { s with request := s.request.setKey k key }

/-- The request kind of a key; RESET has none. -/
def keyKind : Key → Option RequestKind
  | .raise => some .raise
  | .lower => some .lower
  | .reset => none

/-- The key that asks for the other motion. -/
def otherKey : Key → Key
  | .raise => .lower
  | .lower => .raise
  | .reset => .reset

/-- The direction of the jog a key asks for (R18). -/
def jogDirectionOf : Key → Direction
  | .lower => .down
  | _ => .up

/-- The key that holds a jog (R2). -/
def holdingKey : Direction → Key
  | .up => .raise
  | .down => .lower

/-! ## The request sequence (R132 to R134) -/

/-- The kind of the running sequence. -/
def RequestUnit.sequenceKind (r : RequestUnit) : Option RequestKind := r.sequence.map Sequence.kind

/-- The sequence ended; nothing is queued and no slot is emptied (R133). -/
def State.endSequence (s : State) : State := { s with request := { s.request with sequence := none } }

/-- One request of a sequence: a request token handed to the transmit queue, and the own slot filled with the kind and a
stamp of this moment (R134). -/
def State.makeRequest (s : State) (k : RequestKind) : State :=
  { s with bus := s.bus.requestMotion s.now k }.putSlot s.ownNumber (some { kind := k, stamp := s.now })

/-- Whether a press of RAISE or LOWER begins a sequence: mode GROUP, the other key RELEASED, the assembled flag set
(R132). The caller stands in a state from ASSEMBLING on. -/
def State.beginsSequence (s : State) (key : Key) : Bool :=
  s.request.mode == .groupMode && !(s.request.key (otherKey key)).pressed && s.ctrl.assembled

/-- A sequence begun: its first request, and the repeat timer 20 ms from now (R132). -/
def State.beginSequence (s : State) (k : RequestKind) : State :=
  let s1 := s.makeRequest k
  { s1 with request := { s1.request with sequence := some { kind := k, repeatAt := s.now + Timing.repeatPeriod } } }

/-! ## Jog, wake and refusal (R18 to R20, R29, R30, R165 to R167) -/

/-- Entry to JOG in a direction (R18). -/
def State.enterJog (s : State) (dir : Direction) : State :=
  { s with ctrl := { s.ctrl with state := .jog, jogDirection := dir } }.settleFrom s.ctrl.state

/-- Leaving JOG: READY, tested, if the assembled flag is set, else ASSEMBLING (R20). -/
def State.leaveJog (s : State) : State :=
  (if s.ctrl.assembled then s.enterReady else s.enterAssembling).settleFrom .jog

/-- Leaving JOG where the station is in it. -/
def State.leaveJogIfIn (s : State) : State := if s.ctrl.state = .jog then s.leaveJog else s

/-- The wake from PARKED to HOLDING by a press of an own key (R165, R166). -/
def State.wakeByKey (s : State) : State :=
  if s.ctrl.state = .parked then (s.withState .holding).settleFrom .parked else s

/-- A refused local action: the REFUSED lamp is lit for 500 ms from now (R30, R142). -/
def State.refuse (s : State) : State :=
  { s with request := { s.request with refusedLamp := some (s.now + Timing.refusedPulse) } }

/-- The park timer restarted by a press of an own key in HOLDING while it runs (R157). -/
def State.restartPark (s : State) : State :=
  if s.ctrl.state = .holding then
    { s with ctrl := { s.ctrl with parkTimer := s.ctrl.parkTimer.map (fun _ => s.now + s.start.parkTime) } }
  else s

/-- The states in which a local jog is refused (R29). -/
def StationState.refusesJog : StationState → Bool
  | .seating | .holding | .lifting | .lowering | .unseating | .halted => true
  | _ => false

/-- A press of RAISE or LOWER judged as a local jog, by the access table (R18, R29): JOG from ASSEMBLING or READY with the
other key released, refused in the loaded states and HALTED. -/
def State.judgeJog (s : State) (key : Key) : State :=
  if s.request.mode = .localMode then
    if s.ctrl.state.refusesJog then s.refuse
    else if (s.ctrl.state = .assembling ∨ s.ctrl.state = .ready) ∧ (s.request.key (otherKey key)).pressed = false then
      s.enterJog (jogDirectionOf key)
    else s
  else s

/-- A press of RAISE or LOWER at the request unit: a sequence of the other kind ends (R133), and one begins where R132
allows, with the group command that follows (R128). -/
def State.requestPress (s : State) (key : Key) (k : RequestKind) : State :=
  let s1 := if s.request.sequenceKind = keyKind (otherKey key) then s.endSequence else s
  if s1.beginsSequence key then (s1.beginSequence k).settle else s1

/-- A press of RAISE or LOWER at the state controller: in JOG a press of the other key ends the jog (R20); else a parked
station wakes and the press is judged in the state the wake stops in (R166, R167). -/
def State.motionPress (s : State) (key : Key) : State :=
  if s.ctrl.state = .jog then
    if key = holdingKey s.ctrl.jogDirection then s else s.leaveJog
  else (s.wakeByKey.restartPark).judgeJog key

/-- A press of RESET: a CLEAR to the own halt unit, a clear token to the queue, and an own key press for the state
controller (R118, R135, R165). -/
def State.resetPress (s : State) : State :=
  let s1 := { s with bus := s.bus.requestClear s.now }
  (s1.clearAttempt.wakeByKey).restartPark

/-- A filtered press handed on in one change, from ASSEMBLING on (R128). -/
def State.press (s : State) (key : Key) : State :=
  if s.ctrl.state.isOperating then
    match keyKind key with
    | some k => (s.requestPress key k).motionPress key
    | none => s.resetPress
  else s

/-- KEY_PRESS (R126): of a key that is free and RELEASED, with the pendant present (R127), 20 ms or more after its filter
last changed or it became free; any other is no press. -/
def execKeyPress (t : Time) (key : Key) (s : State) : Host.Outcome State Fault Refusal :=
  if (s.request.key key).pressed || (s.request.key key).blocked || !s.request.pendantPresent then .next s
  else
    s.onFilter t (s.request.key key).filterFrom Timing.pendantFilter (fun s => (s.setPressed key true).press key)

/-- A filtered release (R20, R133): it ends a sequence of the key's kind and a jog the key holds, from ASSEMBLING on
(R128). -/
def State.releaseKey (s : State) (key : Key) : State :=
  let s1 := s.setPressed key false
  if s1.ctrl.state.isOperating then
    let s2 := if key ≠ .reset ∧ s1.request.sequenceKind = keyKind key then s1.endSequence else s1
    if s2.ctrl.state = .jog ∧ key = holdingKey s2.ctrl.jogDirection then s2.leaveJog else s2
  else s1

/-- KEY_RELEASE (R126): of a PRESSED key, 20 ms or more after its press. -/
def execKeyRelease (t : Time) (key : Key) (s : State) : Host.Outcome State Fault Refusal :=
  if (s.request.key key).pressed then
    s.onFilter t (s.request.key key).filterFrom Timing.pendantFilter (fun s => s.releaseKey key)
  else .next s

/-- MODE_CHANGE (R126), 20 ms or more after the last one: to LOCAL it ends a sequence (R133), to GROUP a jog (R20). -/
def execModeChange (t : Time) (mode : Mode) (s : State) : Host.Outcome State Fault Refusal :=
  if mode = s.request.mode then .next s
  else
    s.onFilter t s.request.modeFrom Timing.pendantFilter (fun s =>
      let s1 := { s with request := { s.request with mode := mode, modeFrom := some s.now } }
      if s1.ctrl.state.isOperating then
        match mode with
        | .localMode => s1.endSequence
        | .groupMode => s1.leaveJogIfIn
      else s1)

/-- A filtered release of a key that is PRESSED, as the pendant leaves (R127). -/
def State.forceRelease (s : State) (key : Key) : State :=
  if (s.request.key key).pressed then s.releaseKey key else s

/-- Every key blocked at a moment, from which the 20 ms of reading released count (R127, log entry 25). -/
def RequestUnit.blockKeys (r : RequestUnit) (now : Time) : RequestUnit :=
  { r with
    raiseKey := { r.raiseKey with blocked := true, filterFrom := some now }
    lowerKey := { r.lowerKey with blocked := true, filterFrom := some now }
    resetKey := { r.resetKey with blocked := true, filterFrom := some now } }

/-- PENDANT_PRESENT_CHANGE (R127), 20 ms or more after the last one: going inactive, every PRESSED key takes a filtered
release; going active, every key becomes blocked. -/
def execPendantPresentChange (t : Time) (active : Bool) (s : State) : Host.Outcome State Fault Refusal :=
  if active = s.request.pendantPresent then .next s
  else
    s.onFilter t s.request.pendantFrom Timing.pendantFilter (fun s =>
      let s1 := { s with request := { s.request with pendantPresent := active, pendantFrom := some s.now } }
      if active then { s1 with request := s1.request.blockKeys s.now }
      else ((s1.forceRelease .raise).forceRelease .lower).forceRelease .reset)

/-- A blocked key becomes free now, and its filter times a press from here (R127). -/
def State.freeKey (s : State) (key : Key) : State :=
  let k := { s.request.key key with blocked := false, filterFrom := some s.now }
  { s with request := s.request.setKey k key }

/-- KEY_UNBLOCK (R127): a blocked key becomes free, 20 ms or more after it was blocked. -/
def execKeyUnblock (t : Time) (key : Key) (s : State) : Host.Outcome State Fault Refusal :=
  if (s.request.key key).blocked then
    s.onFilter t (s.request.key key).filterFrom Timing.pendantFilter (fun s => s.freeKey key)
  else .next s

/-- REFUSED_PULSE_END (R142): the lamp goes dark. -/
def execRefusedPulseEnd (s : State) : Host.Outcome State Fault Refusal :=
  s.onTimer s.request.refusedLamp (fun _ s => { s with request := { s.request with refusedLamp := none } })

/-- REPEAT_TIMER_EXPIRY (R133): one more request of the sequence's kind, and the timer restarts for 20 ms. -/
def execRepeatTimerExpiry (s : State) : Host.Outcome State Fault Refusal :=
  s.onTimer (s.request.sequence.map Sequence.repeatAt) (fun due s =>
    match s.request.sequence with
    | some q =>
      let s1 := { s with request := { s.request with
          sequence := some { q with repeatAt := due + Timing.repeatPeriod } } }
      (s1.makeRequest q.kind).settle
    | none => s)

/-! ## The e-stop (R129 to R131) -/

/-- The filtered state of a channel: true is OPEN. -/
def RequestUnit.channelOpen (r : RequestUnit) : Channel → Bool
  | .a => r.estopAOpen
  | .b => r.estopBOpen

/-- The moment from which the filter of a channel times its input (R129). -/
def RequestUnit.channelFrom (r : RequestUnit) : Channel → Option Time
  | .a => r.estopAFrom
  | .b => r.estopBFrom

/-- The filter of a channel: 2 ms to OPEN, 20 ms to CLOSED (R129). -/
def channelFilter (isOpen : Bool) : Time := if isOpen then Timing.estopOpening else Timing.estopClosing

/-- A channel's filtered state changed at a moment, from which its filter times the next change (R129). -/
def RequestUnit.setChannel (r : RequestUnit) (isOpen : Bool) (now : Time) : Channel → RequestUnit
  | .a => { r with estopAOpen := isOpen, estopAFrom := some now }
  | .b => { r with estopBOpen := isOpen, estopBFrom := some now }

/-- The discrepancy timer and the latch after a change of a channel (R130): the timer runs while the channels differ; the
latch clears when both are OPEN. -/
def RequestUnit.watchPair (r : RequestUnit) (now : Time) : RequestUnit :=
  { r with
    discrepancySince := if r.estopAOpen = r.estopBOpen then none else some (r.discrepancySince.getD now)
    discrepancyLatch := r.discrepancyLatch && !(r.estopAOpen && r.estopBOpen) }

/-- ESTOP_CHANNEL_CHANGE (R129 to R131), its filter's time or more after the channel's last change: at an onset of the e-stop
condition ESTOP is raised. -/
def execEstopChannelChange (t : Time) (channel : Channel) (isOpen : Bool) (s : State) :
    Host.Outcome State Fault Refusal :=
  if isOpen = s.request.channelOpen channel then .next s
  else
    s.onFilter t (s.request.channelFrom channel) (channelFilter isOpen) (fun s =>
      let s1 := { s with request := (s.request.setChannel isOpen s.now channel).watchPair s.now }
      if s1.request.estopCondition && !s.request.estopCondition then s1.takeCauses [.estop] else s1)

/-- DISCREPANCY_LATCH_SET (R130): the channels have differed for 50 ms. The timer runs on while they differ. -/
def execDiscrepancyLatchSet (s : State) : Host.Outcome State Fault Refusal :=
  s.onTimer (s.request.discrepancySince.map (· + Timing.discrepancy)) (fun _ s =>
    { s with request := { s.request with discrepancyLatch := true } })

end Sys2Proof.Machine
end

