-- ==== Sys2Proof/Machine/StartUnit.lean ====
section
/-! DEFINITION. The commands of the start unit (chapter 10): the resets, the hold-off, the option read and the drive
supply. -/

namespace Sys2Proof.Machine

/-! ## Resets (R185, R186) -/

/-- The input levels as they were last taken, which the sampled items keep until the first sample after the reset
(log entry 3). -/
def State.lastLevels (s : State) : InputSample :=
  { encoderA := s.meas.encoderA, encoderB := s.meas.encoderB, upperEnd := s.meas.upperEnd,
    lowerEnd := s.meas.lowerEnd, overtravel := s.meas.overtravel, mode := s.request.mode,
    pendantPresent := s.request.pendantPresent, estopAOpen := s.request.estopAOpen,
    estopBOpen := s.request.estopBOpen }

/-- Every block at its reset values, with no timer running, while a reset is held (R185). The unit number is not changed
by a reset (R184); the clock and the queue of commands are not the part's. -/
def State.heldReset (s : State) (i : InputSample) : State :=
  { now := s.now
    start := StartUnit.held s.start.unitNumber s.start.startCause
    meas := .held i
    peers := .held
    engine := .held
    drive := .held
    request := .held i
    ctrl := .held
    halt := .held
    bus := .held s.now
    pending := s.pending }

/-- A source seen asserted during the reset (R186). -/
def StartUnit.see (u : StartUnit) : ResetSource → StartUnit
  | .powerOn => { u with powerOnSeen := true }
  | .brownOut => { u with brownOutSeen := true }
  | .resetPin => { u with resetPinSeen := true }

/-- A reset source is asserted (R185). A further source during a held reset is seen and changes nothing else. -/
def State.resetOnset (s : State) (source : ResetSource) : State :=
  if s.start.resetHeld then { s with start := s.start.see source }
  else
    let s1 := s.heldReset s.lastLevels
    { s1 with start := s1.start.see source }

/-- RESET_ONSET (R185). -/
def execResetOnset (t : Time) (source : ResetSource) (s : State) : Host.Outcome State Fault Refusal :=
  .next ((s.tick t).resetOnset source)

/-- The start cause recorded at the end of a reset (R186). -/
def StartUnit.recordedCause (u : StartUnit) : ResetSource :=
  if u.powerOnSeen then .powerOn else if u.brownOutSeen then .brownOut else .resetPin

/-- The end of a held reset: the start cause is recorded, the inputs are sampled, and the timers of every block start:
the hold-off (R187), the sample timer at 13 ms (R35), the control timer at 10 ms (R77), the discrepancy timer if the e-stop
channels disagree (R125), and the filters of every input (R47, R126, R127, R129, R194). -/
def State.resetEnd (s : State) (i : InputSample) : State :=
  let s1 := s.heldReset i
  { s1 with
    start := { s1.start with
      resetHeld := false
      powerOnSeen := s.start.powerOnSeen
      brownOutSeen := s.start.brownOutSeen
      resetPinSeen := s.start.resetPinSeen
      startCause := s.start.recordedCause
      holdOff := some (s.now + Timing.holdOff)
      supplyFilterFrom := some s.now }
    meas := { s1.meas.startFilters s.now with sampleTimer := some (s.now + Timing.sampleFirst) }
    engine := { s1.engine with controlTimer := some (s.now + Timing.controlPeriod) }
    request := { s1.request.startFilters s.now with
      discrepancySince := if i.estopAOpen = i.estopBOpen then none else some s.now } }

/-- RESET_END (R186). Where no reset is held there is none to end (log entry 6). -/
def execResetEnd (t : Time) (inputs : InputSample) (s : State) : Host.Outcome State Fault Refusal :=
  .next (if s.start.resetHeld then (s.tick t).resetEnd inputs else s)

/-! ## The hold-off and the option read (R187 to R193) -/

/-- HOLD_OFF_EXPIRY (R187): the straps are read (R189) and the option read begins (R190). -/
def execHoldOffExpiry (straps : BitVec 5) (s : State) : Host.Outcome State Fault Refusal :=
  s.onTimer s.start.holdOff (fun _ s =>
    { s with start := { s.start with
        holdOff := none
        strapReading := some (strapNumber straps)
        optionRead := some (s.now + Timing.optionRead) } })

/-! ## The option port's lines (R190) -/

/-- The read command, 03h (R190). -/
def optionCommand : Byte := 0x03#8

/-- The start address of the read, one byte, 00h (R190). -/
def optionAddress : Byte := 0x00#8

/-- The bits of the command byte or the address byte in the order in which the model sends them, the most significant first.
DESIGN CHOICE (log entry 26, unsafe): R190 gives this order for the 35 bytes clocked in and none for the two bytes sent. -/
def portBits (b : Byte) : List Bool := (List.range 8).map (fun k => b.getMsbD k)

/-- The bits the start unit sends before it clocks the block in: the read command, then the start address (R190), each in the
bit order of log entry 26. -/
def optionRequest : List Bool := portBits optionCommand ++ portBits optionAddress

/-- The select line: driven from the beginning of the option read to its end, and released by a reset (R190). -/
def StartUnit.selectLine (u : StartUnit) : Bool := u.optionRead.isSome

/-- The number of the clock period, from 0, that runs on the clock line at a moment of the read; none outside it
(R190). -/
def StartUnit.clockPeriod (u : StartUnit) (t : Time) : Option Nat :=
  u.optionRead.bind (fun due =>
    if due ≤ t + Timing.optionRead ∧ t < due then some ((t + Timing.optionRead - due) / Timing.optionClock) else none)

/-- The bit the start unit sends at a moment; none outside the sixteen clock periods of command and address (R190). The order
of the bits within each byte is the model's (log entry 26). -/
def StartUnit.portBit (u : StartUnit) (t : Time) : Option Bool := (u.clockPeriod t).bind (fun k => optionRequest[k]?)

/-- The level causes, each raised at the entry to ASSEMBLING from START if its condition is present (R113). -/
def levelCauses : List Cause := [.estop, .overtravel, .overload, .sensor, .supplyLow]

/-- The entry to ASSEMBLING from START with a valid configuration, as one change (R192): the configuration, the station
number and the digest become present; the entry effects of R16; the report timer starts at FAST; the creep reference is
taken; the level causes whose conditions are present are raised as one event (R113). -/
def State.enterFromStart (s : State) (station : Nat) (o : Options) (digest : Word16) : State :=
  let s1 := { s with
    start := { s.start with stationNumber := some station, config := some o, digest := some digest }
    drive := { s.drive with creepReference := s.meas.stroke }
    bus := s.bus.restartTimer s.now .fast }
  let s2 := s1.enterAssembling.settleFrom .start
  s2.takeCauses (levelCauses.filter s2.conditionPresent)

/-- The entry to CONFIG_FAULT (R193): silent with an invalid station number, reporting SLOW with a valid one. -/
def State.enterConfigFault (s : State) (station : Option Nat) : State :=
  let s1 := { s with
    start := { s.start with stationNumber := station }
    bus := if station.isSome then s.bus.restartTimer s.now .slow else s.bus }
  (s1.withState .configFault).settleFrom .start

/-- The judgement at the end of the option read, of the station number and the block together (R189, R191 to R193). -/
def State.judgeStart (s : State) (block : List Byte) : State :=
  match s.start.strapReading.filter validStation with
  | some n =>
    match readOptions block with
    | some o => s.enterFromStart n o (blockDigest block)
    | none => s.enterConfigFault (some n)
  | none => s.enterConfigFault none

/-- OPTION_READ_END (R191). -/
def execOptionReadEnd (data : BitVec 280) (s : State) : Host.Outcome State Fault Refusal :=
  s.onTimer s.start.optionRead (fun _ s =>
    let s1 := { s with start := { s.start with optionRead := none } }
    if s1.ctrl.state = .start then s1.judgeStart (blockOf data) else s1)

/-! ## The drive supply (R194, R195) -/

/-- The onset of the supply-low indication: under DERATE the engine halves its last ceiling at once and hands over an
output it has lowered (R88); under HALT it raises SUPPLY_LOW (R195); with no policy in force it does nothing (R195). -/
def State.supplyOnset (s : State) : State :=
  if s.start.policyIs .derate then
    let s1 := { s with engine := s.engine.derateAtOnce }
    if s1.engine.commanded < s.engine.commanded then s1.handOver else s1
  else if s.start.policyIs .halt then s.takeCauses [.supplyLow]
  else s

/-- SUPPLY_LOW_CHANGE (R194): taken no earlier than 50 ms after the moment from which the filter times its input. A level
that is the filtered level already is no change. -/
def execSupplyLowChange (t : Time) (low : Bool) (s : State) : Host.Outcome State Fault Refusal :=
  if low = s.start.supplyLow then .next s
  else
    s.onFilter t s.start.supplyFilterFrom Timing.supplyFilter (fun s =>
      let s1 := { s with start := { s.start with supplyLow := low, supplyFilterFrom := some s.now } }
      if low then s1.supplyOnset else s1)

end Sys2Proof.Machine
end

