-- ==== Sys2Proof/Machine/Dispatch.lean ====
section
/-! DEFINITION. The meaning of every command: one arm per constructor of `Instr`, each one direct call. -/

namespace Sys2Proof.Machine

def exec (i : Instr) (s : State) : Host.Outcome State Fault Refusal :=
  match i with
  | .resetOnset moment source => Sys2Proof.Machine.execResetOnset moment source s
  | .resetEnd moment inputs => Sys2Proof.Machine.execResetEnd moment inputs s
  | .holdOffExpiry straps => Sys2Proof.Machine.execHoldOffExpiry straps s
  | .optionReadEnd data => Sys2Proof.Machine.execOptionReadEnd data s
  | .encoderEdge moment a b => Sys2Proof.Machine.execEncoderEdge moment a b s
  | .sampleTimerExpiry => Sys2Proof.Machine.execSampleTimerExpiry s
  | .converterReadEnd reply => Sys2Proof.Machine.execConverterReadEnd reply s
  | .switchFilterChange moment switch active => Sys2Proof.Machine.execSwitchFilterChange moment switch active s
  | .controlTimerExpiry => Sys2Proof.Machine.execControlTimerExpiry s
  | .supplyLowChange moment low => Sys2Proof.Machine.execSupplyLowChange moment low s
  | .releaseTimerExpiry => Sys2Proof.Machine.execReleaseTimerExpiry s
  | .setDelayExpiry => Sys2Proof.Machine.execSetDelayExpiry s
  | .keyPress moment key => Sys2Proof.Machine.execKeyPress moment key s
  | .keyRelease moment key => Sys2Proof.Machine.execKeyRelease moment key s
  | .modeChange moment mode => Sys2Proof.Machine.execModeChange moment mode s
  | .pendantPresentChange moment active => Sys2Proof.Machine.execPendantPresentChange moment active s
  | .keyUnblock moment key => Sys2Proof.Machine.execKeyUnblock moment key s
  | .refusedPulseEnd => Sys2Proof.Machine.execRefusedPulseEnd s
  | .repeatTimerExpiry => Sys2Proof.Machine.execRepeatTimerExpiry s
  | .estopChannelChange moment channel isOpen => Sys2Proof.Machine.execEstopChannelChange moment channel isOpen s
  | .discrepancyLatchSet => Sys2Proof.Machine.execDiscrepancyLatchSet s
  | .reportFrame moment chars => Sys2Proof.Machine.execReportFrame moment chars s
  | .raiseFrame moment chars => Sys2Proof.Machine.execRaiseFrame moment chars s
  | .lowerFrame moment chars => Sys2Proof.Machine.execLowerFrame moment chars s
  | .clearFrame moment chars => Sys2Proof.Machine.execClearFrame moment chars s
  | .slotWindowExpiry station => Sys2Proof.Machine.execSlotWindowExpiry station s
  | .staleDeadlineExpiry station => Sys2Proof.Machine.execStaleDeadlineExpiry station s
  | .contestDeadlineExpiry station => Sys2Proof.Machine.execContestDeadlineExpiry station s
  | .clashHoldExpiry => Sys2Proof.Machine.execClashHoldExpiry s
  | .clearGraceEnd => Sys2Proof.Machine.execClearGraceEnd s
  | .parkTimerExpiry => Sys2Proof.Machine.execParkTimerExpiry s
  | .reportTimerExpiry => Sys2Proof.Machine.execReportTimerExpiry s
  | .accessGained => Sys2Proof.Machine.execAccessGained s
  | .attemptSent => Sys2Proof.Machine.execAttemptSent s
  | .attemptAbandoned broken => Sys2Proof.Machine.execAttemptAbandoned broken s
  | .tokenTimeout place => Sys2Proof.Machine.execTokenTimeout place s
  | .startBitSeen seen => Sys2Proof.Machine.execStartBitSeen seen s
  | .receivedFrameDiscarded moment reason => Sys2Proof.Machine.execReceivedFrameDiscarded moment reason s
  | .requestFrameOtherCode moment chars => Sys2Proof.Machine.execRequestFrameOtherCode moment chars s

end Sys2Proof.Machine
end

