-- ==== Sys2Proof/Safety.lean ====
section
/-! DEFINITION. What a safe state of the part is: the laws the spec names, each written with what it needs to be kept by
every step from every state that meets it. Every law is decidable, so a run can be checked against it. -/

namespace Sys2Proof.Machine

/-! ## Classes of states the laws name -/

/-- START, CONFIG_FAULT and HALTED: the states in which the drive stays off (R144). -/
def StationState.isResting : StationState → Bool
  | .start | .configFault | .halted => true
  | _ => false

/-- The states in which the contact record is present (R14). -/
def StationState.hasContact : StationState → Bool
  | .holding | .lifting | .lowering | .parked | .unseating => true
  | _ => false

/-- The states in which the assembled flag is set: READY and the loaded states (R6, R17, R21). -/
def StationState.isFormed (st : StationState) : Bool := st == .ready || st.isLoaded

/-- The states in which the assembled flag is clear: START, CONFIG_FAULT and ASSEMBLING (R3, R15, R16). -/
def StationState.isUnformed : StationState → Bool
  | .start | .configFault | .assembling => true
  | _ => false

/-! ## The drive and the engine -/

/-- The brake law (R144, R146 to R150): no output unless RELEASED; SET in START, CONFIG_FAULT and HALTED; the release timer
runs exactly while RELEASING, which is in moving states alone; the set-delay timer runs exactly while RELEASED outside
the moving states; the extreme stroke is present exactly while RELEASED; the brake is not SET in a moving state. -/
abbrev BrakeLaw (s : State) : Prop :=
  (s.drive.brake ≠ .released → s.drive.applied = 0)
    ∧ (s.ctrl.state.isResting = true → s.drive.brake = .set)
    ∧ s.drive.releaseTimer.isSome = (s.drive.brake == .releasing)
    ∧ (s.drive.brake = .releasing → s.ctrl.state.isMoving = true)
    ∧ s.drive.setDelay.isSome = (s.drive.brake == .released && !s.ctrl.state.isMoving)
    ∧ s.drive.extreme.isSome = (s.drive.brake == .released)
    ∧ (s.ctrl.state.isMoving = true → s.drive.brake ≠ .set)

/-- The output law (R86, R96, R98, R99, R150, R191): a configuration is within its ranges; the commanded output is held below
the last ceiling, which is at most the ceiling of the present state, 0 outside the moving states, and 1000; the drive unit
holds the engine's output and direction; the applied output is at most the commanded one. -/
abbrev OutputLaw (s : State) : Prop :=
  (∀ o ∈ s.start.config, o.inRange = true)
    ∧ s.engine.commanded ≤ s.engine.lastCeiling
    ∧ s.engine.lastCeiling ≤ s.start.ceiling s.ctrl.state
    ∧ (s.ctrl.state.isMoving = false → s.start.ceiling s.ctrl.state = 0)
    ∧ s.engine.lastCeiling ≤ 1000
    ∧ s.drive.commandedCopy = s.engine.commanded
    ∧ s.drive.direction = s.engine.direction
    ∧ s.drive.applied ≤ s.drive.commandedCopy

/-! ## Halts and the e-stop -/

/-- The halt law (R103, R116): the first cause is present exactly in HALTED and is in the cause set; the cause set is
empty exactly outside HALTED, in the order of the codes, no cause twice. -/
abbrev HaltLaw (s : State) : Prop :=
  s.halt.first.isSome = (s.ctrl.state == .halted)
    ∧ (∀ f ∈ s.halt.first, f.cause ∈ s.halt.causes)
    ∧ s.halt.causes.isEmpty = (s.ctrl.state != .halted)
    ∧ s.halt.causes.Pairwise (fun a b => a.code < b.code)

/-- The e-stop law (R113, R131): while the e-stop condition is present, the station is in START, CONFIG_FAULT or HALTED,
and in HALTED it holds ESTOP. The discrepancy timer runs only while the channels differ (R130). -/
abbrev EstopLaw (s : State) : Prop :=
  (s.request.estopCondition = true → s.ctrl.state.isResting = true)
    ∧ (s.request.estopCondition = true → s.ctrl.state = .halted → Cause.estop ∈ s.halt.causes)
    ∧ (s.request.discrepancySince.isSome = true → s.request.estopAOpen ≠ s.request.estopBOpen)

/-! ## The state controller's context -/

/-- The context law (R6, R14, R24): the contact record is present in HOLDING, LIFTING, LOWERING, PARKED and UNSEATING and
absent elsewhere but in HALTED; the assembled flag is set in READY and the loaded states and clear in START, CONFIG_FAULT
and ASSEMBLING; a contact record in HALTED goes with the flag. -/
abbrev ContextLaw (s : State) : Prop :=
  (s.ctrl.state ≠ .halted → s.ctrl.contact.isSome = s.ctrl.state.hasContact)
    ∧ (s.ctrl.state.isFormed = true → s.ctrl.assembled = true)
    ∧ (s.ctrl.state.isUnformed = true → s.ctrl.assembled = false)
    ∧ (s.ctrl.contact.isSome = true → s.ctrl.assembled = true)

/-- The membership law (R7): with the assembled flag set exactly N - 1 entries are marked; with it clear none is. -/
abbrev MembersLaw (s : State) : Prop :=
  if s.ctrl.assembled then s.start.config.map (fun o => o.n - 1) = some s.peers.memberCount else s.peers.memberCount = 0

/-- The lamps and the park timer follow the state (R8, R117, R157). -/
abbrev LampsAndParkLaw (s : State) : Prop :=
  s.ctrl.readyLamp = (s.ctrl.assembled && s.ctrl.state != .halted)
    ∧ s.halt.faultLamp = (s.ctrl.state == .halted || s.ctrl.state == .configFault)
    ∧ s.ctrl.parkTimer.isSome = (s.ctrl.state == .holding && s.command == .none)

/-! ## The start unit, the peer table and the request unit -/

/-- The start law (R184, R191 to R193): configuration and digest are present exactly from ASSEMBLING on, with the station
number, which is 1..24 where present and absent in START. -/
abbrev StartLaw (s : State) : Prop :=
  s.start.config.isSome = s.ctrl.state.isOperating
    ∧ s.start.digest.isSome = s.ctrl.state.isOperating
    ∧ (s.ctrl.state.isOperating = true → s.start.stationNumber.isSome = true)
    ∧ (s.ctrl.state = .start → s.start.stationNumber = none)
    ∧ (∀ n ∈ s.start.stationNumber, 1 ≤ n ∧ n ≤ 24)
    ∧ (∀ o ∈ s.start.config, o.inRange = true)

/-- The own-entry law (R52): every entry is EMPTY in START and CONFIG_FAULT, and the entry of the own number always. -/
abbrev OwnEntryLaw (s : State) : Prop :=
  (s.ctrl.state.isOperating = false → ∀ e ∈ s.peers.entries.toList, e = Entry.empty)
    ∧ (Table.get s.peers.entries s.ownNumber).getD Entry.empty = Entry.empty

/-- An entry at a moment, coherent (R52, R54, R61, R64, R69, R73): content and last arrival go with a status other than
EMPTY; a FRESH entry's stale deadline is three periods after its last arrival and no other runs; a STALE entry is at least
that old; no scheduled arrival is later than the last; a contest goes with its deadline; only a FRESH entry is faulty or
contested. -/
abbrev Entry.coherent (e : Entry) (now : Time) : Prop :=
  e.content.isSome = (e.status != .empty)
    ∧ e.lastArrival.isSome = (e.status != .empty)
    ∧ (e.status = .fresh → e.staleDeadline
        = e.lastArrival.bind (fun a => e.content.map (fun c => a + 3 * c.period.interval)))
    ∧ (e.status ≠ .fresh → e.staleDeadline = none)
    ∧ (e.status = .stale → ∀ a ∈ e.lastArrival, ∀ c ∈ e.content, a + 3 * c.period.interval ≤ now)
    ∧ (∀ a ∈ e.lastArrival, a ≤ now)
    ∧ (∀ t ∈ e.lastScheduled, ∃ a ∈ e.lastArrival, t ≤ a)
    ∧ e.contestDeadline.isSome = e.contested
    ∧ (e.faulty = true ∨ e.contested = true → e.status = .fresh)

/-- The entry law: every entry is coherent. -/
abbrev EntryLaw (s : State) : Prop := ∀ e ∈ s.peers.entries.toList, e.coherent s.now

/-- The request law (R18, R20, R127, R132, R133, R139): with the assembled flag clear the request table is empty and no
sequence runs; a blocked key reads RELEASED, and so does every key while the pendant is absent; no sequence runs in START,
CONFIG_FAULT and LOCAL mode, and a jog is held in LOCAL mode by its own key alone. -/
abbrev RequestLaw (s : State) : Prop :=
  (s.ctrl.assembled = false → (∀ x ∈ s.request.slots.toList, x = none) ∧ s.request.sequence = none)
    ∧ (∀ k ∈ [s.request.raiseKey, s.request.lowerKey, s.request.resetKey],
        k.blocked = true ∨ s.request.pendantPresent = false → k.pressed = false)
    ∧ (s.ctrl.state.isOperating = false ∨ s.request.mode = .localMode → s.request.sequence = none)
    ∧ (s.ctrl.state = .jog → s.request.mode = .localMode
        ∧ (s.request.key (holdingKey s.ctrl.jogDirection)).pressed = true
        ∧ (s.request.key (otherKey (holdingKey s.ctrl.jogDirection))).pressed = false)

/-! ## The measurement unit and the bus interface -/

/-- The filter law (R47, R125, R126, R129, R194): every filter times its input exactly while no reset is held, from a moment
that has come (log entry 11). -/
abbrev FilterLaw (s : State) : Prop :=
  ∀ x ∈ [s.start.supplyFilterFrom, s.meas.upperEndFrom, s.meas.lowerEndFrom, s.meas.overtravelFrom,
      s.request.raiseKey.filterFrom, s.request.lowerKey.filterFrom, s.request.resetKey.filterFrom, s.request.modeFrom,
      s.request.pendantFrom, s.request.estopAFrom, s.request.estopBFrom],
    x.isSome = !s.start.resetHeld ∧ ∀ t ∈ x, t ≤ s.now

/-- The measurement law (R31, R34, R36, R40 to R46): the ranges of the measured values, and a converter silent exactly at a
miss count of 5; the contact counter runs exactly in SEATING, the release counter in UNSEATING, the unseat counter in
HOLDING, LIFTING, LOWERING and PARKED, each with at most 5 samples to go. -/
abbrev MeasureLaw (s : State) : Prop :=
  (-strokeLimit ≤ s.meas.stroke ∧ s.meas.stroke ≤ strokeLimit)
    ∧ (-999 ≤ s.meas.velocity ∧ s.meas.velocity ≤ 999)
    ∧ s.meas.load ≤ 4000
    ∧ s.meas.missCount ≤ 5
    ∧ s.meas.silent = (s.meas.missCount == 5)
    ∧ s.meas.overloadCount ≤ 3
    ∧ s.meas.contact.running = (s.ctrl.state == .seating)
    ∧ s.meas.release.running = (s.ctrl.state == .unseating)
    ∧ s.meas.unseat.running = s.ctrl.state.isSeated
    ∧ (∀ c ∈ [s.meas.contact, s.meas.release, s.meas.unseat], c.value ≤ 5)

/-- The bus law (R173, R174, R178, R180 to R182, R193): a waiting token has failed at most 15 attempts; a token under attempt
stands in its place; a request is pending only while its place is under attempt; the retry offset is within 0..30; the
access wait runs exactly while tokens wait and no attempt is made; in START and without a station number nothing is
queued, sent, timed or repeated. -/
abbrev BusLaw (s : State) : Prop :=
  (∀ p ∈ [Place.report, Place.motion, Place.clear], s.bus.attemptsOf p ≤ 15)
    ∧ (∀ a ∈ s.bus.attempt, (s.bus.enteredAt a.place).isSome = true)
    ∧ (s.bus.pendingReport.isSome = true → s.bus.underAttempt .report = true)
    ∧ (s.bus.pendingMotion.isSome = true → s.bus.underAttempt .motion = true)
    ∧ s.bus.retryOffset ≤ 30
    ∧ s.bus.accessWait.isSome = (s.bus.attempt.isNone && !s.bus.isEmpty)
    ∧ (s.ctrl.state = .start ∨ s.start.stationNumber = none →
        s.ctrl.state.isOperating = false ∧ s.bus.isEmpty = true ∧ s.bus.attempt = none ∧ s.bus.reportTimer = none
          ∧ s.request.sequence = none)

/-! ## Where the state controller comes to rest -/

/-- Every member entry reports HOLDING, LIFTING or LOWERING (R12). -/
def State.membersPoised (s : State) : Bool :=
  s.peers.entries.toList.all (fun e => !e.member || e.reports StationState.isPoised)

/-- The own lift is 0, and every member entry reports HOLDING, LOWERING or UNSEATING with its lift present and 0 (R13). -/
def State.membersLanded (s : State) : Bool :=
  s.ownLift == some 0 && s.peers.entries.toList.all (fun e => !e.member || e.landed)

/-- Where the group command leads a station that stands in HOLDING (R23). -/
def GroupCommand.leadsTo (c : GroupCommand) (poised landed : Bool) : StationState :=
  match c with
  | .raise => if poised then .lifting else .holding
  | .lower => if landed then .unseating else if poised then .lowering else .holding
  | .conflict | .none => .holding

/-- The assembly does not hold where it must: in READY, in SEATING as its RAISE ends, and in JOG with the flag set (R11,
R17, R19, R22). -/
def State.losesAssembly (s : State) : Bool :=
  !s.assemblyHolds
    && match s.ctrl.state with
      | .ready => true
      | .seating => s.command != .raise
      | .jog => s.ctrl.assembled
      | _ => false

/-- The group is assembled in ASSEMBLING, or as a lost assembly brings the station there (R10, R16). -/
def State.completesAssembly (s : State) : Bool :=
  s.groupAssembled && (s.ctrl.state == .assembling || (s.losesAssembly && s.ctrl.state != .jog))

/-- The state in which the station comes to rest under its inputs, by the tables of R16, R17, R19, R22 to R26, R29 and
R166. -/
def State.restsIn (s : State) : StationState :=
  match s.ctrl.state with
  | .assembling =>
    if s.completesAssembly then (if s.command = .raise then .seating else .ready) else .assembling
  | .ready | .seating =>
    if s.losesAssembly then (if s.completesAssembly then .ready else .assembling)
    else if s.command = .raise then .seating
    else .ready
  | .holding | .lifting | .lowering => s.command.leadsTo s.membersPoised s.membersLanded
  | .parked => if s.command = .none then .parked else s.command.leadsTo s.membersPoised s.membersLanded
  | .unseating => if s.command = .raise then s.command.leadsTo s.membersPoised s.membersLanded else .unseating
  | .jog => .jog
  | .start => .start
  | .configFault => .configFault
  | .halted => .halted

/-- The state controller in `t` has come to rest from `s`, the part with a command's own writes made (R4 to R6, R8, R16,
R117, R133, R139, R157): the state is the one of the tables; a completed assembly sets the flag, marks exactly the eligible
entries and clears the fresh flag; a lost one clears the flag, every mark, the request table and the sequence; the lamps
follow; the park timer runs in HOLDING with the command NONE, from where it stood or from zero. Conditions are read as levels
(log entry 7), the jog direction is kept (log entry 10), and a park delay without a configuration is 0 (log entry 18). -/
abbrev SettlesFrom (s t : State) : Prop :=
  t.ctrl = { s.ctrl with
      state := s.restsIn
      assembled := s.completesAssembly || (s.ctrl.assembled && !s.losesAssembly)
      fresh := s.ctrl.fresh && !s.completesAssembly
      parkTimer := if s.restsIn = .holding ∧ s.command = .none
        then some (s.ctrl.parkTimer.getD (t.now + s.start.parkTime)) else none
      readyLamp := t.ctrl.assembled && t.ctrl.state != .halted }
    ∧ t.peers.entries.toList = (if s.completesAssembly
        then s.peers.entries.toList.map (fun e => { e with member := e.eligible s.start.digest })
        else if s.losesAssembly then s.peers.entries.toList.map (fun e => { e with member := false })
        else s.peers.entries.toList)
    ∧ t.request = (if s.losesAssembly
        then { s.request with slots := Vector.replicate 24 none, sequence := none } else s.request)
    ∧ t.halt.faultLamp = (t.ctrl.state == .halted || t.ctrl.state == .configFault)

/-- The station in `t` has entered ASSEMBLING from `s`, the part with a command's own writes made, and gone on to READY
where the group is assembled (R5, R6, R16, R133, R139). -/
abbrev EntersAssembling (s t : State) : Prop :=
  t.ctrl.state = (if s.groupAssembled then .ready else .assembling)
    ∧ t.ctrl.assembled = s.groupAssembled ∧ t.ctrl.readyLamp = s.groupAssembled
    ∧ t.ctrl.fresh = (s.ctrl.fresh && !s.groupAssembled) ∧ t.ctrl.contact = s.ctrl.contact
    ∧ t.peers.entries.toList
      = s.peers.entries.toList.map (fun e => { e with member := s.groupAssembled && e.eligible s.start.digest })
    ∧ t.request = { s.request with slots := Vector.replicate 24 none, sequence := none }

/-- A station in JOG loses its flag and stays in JOG: every mark is removed, the request table empties and the sequence ends
(R6, R11, R19, R133, R139). -/
abbrev LosesFlagInJog (s t : State) : Prop :=
  t.ctrl.state = .jog ∧ t.ctrl.jogDirection = s.ctrl.jogDirection ∧ t.ctrl.assembled = false ∧ t.ctrl.readyLamp = false
    ∧ t.peers.memberCount = 0 ∧ t.request = { s.request with slots := Vector.replicate 24 none, sequence := none }

/-- A station that leaves JOG, from `s`, the part with a command's own writes made: READY, tested, with the flag set,
ASSEMBLING with it clear; the output is gone, and a released brake gets its set delay, one still releasing is set at once
(R17, R20, R148). A RAISE that stands in READY carries it on to SEATING (log entry 7). -/
abbrev LeavesJog (s t : State) : Prop :=
  (s.ctrl.assembled = true → SettlesFrom { s with ctrl := { s.ctrl with state := .ready } } t)
    ∧ (s.ctrl.assembled = false → EntersAssembling s t)
    ∧ (t.ctrl.state ≠ .seating → t.engine.commanded = 0 ∧ t.drive.applied = 0
        ∧ (s.drive.brake = .released → t.drive.brake = .released ∧ t.drive.setDelay = some (t.now + 100000))
        ∧ (s.drive.brake = .releasing → t.drive.brake = .set ∧ t.drive.creepReference = s.meas.stroke))

/-- A station that leaves HALTED by a clear, from `s`, the part with the command's own writes made: HOLDING with the contact
record, else READY, tested, with the flag set, else ASSEMBLING; and on by the tables (R17, R28, R121). -/
abbrev ReturnsFromHalt (s t : State) : Prop :=
  (s.ctrl.contact.isSome = true → SettlesFrom { s with ctrl := { s.ctrl with state := .holding } } t)
    ∧ (s.ctrl.contact = none → s.ctrl.assembled = true → SettlesFrom { s with ctrl := { s.ctrl with state := .ready } } t)
    ∧ (s.ctrl.contact = none → s.ctrl.assembled = false → EntersAssembling s t)

/-! ## What follows a change -/

/-- A prompt report asked for at an entry to PARKED or a leaving of it, with the interval of the new state (R160, R174, R177).
Under attempt it is held as pending. With the prompt-spent flag clear it is queued: the waiting token takes the mark, or a
token with the mark enters. The report timer restarts where it is queued or a report token waits; a pending request keeps
that it is to restart (log entry 16). -/
abbrev AsksPromptReport (s t : State) (p : PeriodClass) : Prop :=
  (s.bus.underAttempt .report = true →
      t.bus.report = s.bus.report ∧ t.bus.reportTimer = s.bus.reportTimer
        ∧ t.bus.pendingReport = some { prompt := true, restart := true })
    ∧ (s.bus.underAttempt .report = false →
      t.bus.pendingReport = s.bus.pendingReport
        ∧ t.bus.report = (match s.bus.report with
            | some x => some { x with prompt := x.prompt || !s.bus.promptSpent }
            | none => if s.bus.promptSpent then none else some { prompt := true, entered := t.now, attempts := 0 })
        ∧ t.bus.reportTimer = (if s.bus.promptSpent = true ∧ s.bus.report = none then s.bus.reportTimer
            else some { due := t.now + (if p = .fast then 20000 else 500000), interval := p }))

/-- The brake and the creep reference in `t` follow a change of state handed on from `s` (R145, R146, R148): at entry to a
moving state a SET brake begins its release, a release runs on, and a RELEASED brake loses its set delay; at a leaving of the
moving states a RELEASED brake gets its set delay, and a RELEASING one is SET with the creep reference at the stroke; nothing
changes else. -/
abbrev BrakeFollows (s t : State) : Prop :=
  if t.ctrl.state.isMoving then
    t.drive.creepReference = s.drive.creepReference
      ∧ (s.drive.brake = .set → t.drive.brake = .releasing
          ∧ t.drive.releaseTimer = some (t.now + s.start.releaseTime) ∧ t.drive.setDelay = s.drive.setDelay)
      ∧ (s.drive.brake = .releasing → t.drive.brake = .releasing ∧ t.drive.releaseTimer = s.drive.releaseTimer
          ∧ t.drive.setDelay = s.drive.setDelay)
      ∧ (s.drive.brake = .released → t.drive.brake = .released ∧ t.drive.releaseTimer = s.drive.releaseTimer
          ∧ t.drive.setDelay = none)
  else if s.ctrl.state.isMoving = true ∧ s.drive.brake = .releasing then
    t.drive.brake = .set ∧ t.drive.releaseTimer = none ∧ t.drive.setDelay = none
      ∧ t.drive.creepReference = t.meas.stroke
  else
    t.drive.brake = s.drive.brake ∧ t.drive.releaseTimer = s.drive.releaseTimer
      ∧ t.drive.creepReference = s.drive.creepReference
      ∧ t.drive.setDelay = (if s.ctrl.state.isMoving = true ∧ s.drive.brake = .released
          then some (t.now + 100000) else s.drive.setDelay)

/-- What a change of state hands on, from `s` to the state that stands in `t`, HALTED and CONFIG_FAULT apart (R4). To the
engine (R97 to R99): the ceiling of the new state, the direction, and the output lowered to that ceiling, or to 0 at a change
of direction. To the drive unit (R145 to R151): the output, and the brake. To the confirmation counters (R42 to R44, R46): a
counter stands at 5 on entry to its states and is stopped outside them. Where the state has not changed, nothing is handed
on. A configuration that is absent counts as 0 (log entry 18). -/
abbrev HandsOn (s t : State) : Prop :=
  (t.ctrl.state = s.ctrl.state →
      t.engine = s.engine ∧ t.drive = { s.drive with stall := t.drive.stall, extreme := t.drive.extreme }
        ∧ t.meas.contact = s.meas.contact ∧ t.meas.release = s.meas.release ∧ t.meas.unseat = s.meas.unseat)
    ∧ (t.ctrl.state ≠ s.ctrl.state →
      (let c := s.start.ceiling t.ctrl.state
       let dir := (t.ctrl.state.motion t.ctrl.jogDirection).getD s.engine.direction
       t.engine = { s.engine with
           lastCeiling := c, direction := dir
           commanded := if dir = s.engine.direction then min s.engine.commanded c else 0 }
         ∧ t.drive.commandedCopy = t.engine.commanded ∧ t.drive.direction = dir
         ∧ t.drive.applied = (if s.drive.brake = .released ∧ s.drive.direction = dir then t.engine.commanded else 0))
      ∧ BrakeFollows s t
      ∧ (if t.ctrl.state = .seating then t.meas.contact = { value := 5, running := true }
          else t.meas.contact.running = false)
      ∧ (if t.ctrl.state = .unseating then t.meas.release = { value := 5, running := true }
          else t.meas.release.running = false)
      ∧ (if t.ctrl.state.isSeated then
            t.meas.unseat = (if s.ctrl.state.isSeated then s.meas.unseat else { value := 5, running := true })
          else t.meas.unseat.running = false))

/-- What the transitions that follow a change may touch at most, where no cause is taken (R4): the state and what it hands on,
to the engine, the drive unit and the confirmation counters as `HandsOn` says, and to the report place. The start unit, the
measured values, the number-clash indication, the causes, the contact record, the control timer and the attempt stay, and the
commanded output does not rise. The report place and the report timer change at a wake from PARKED alone, as R160 states. -/
abbrev OnlyMotionFollows (s t : State) : Prop :=
  t.start = s.start
    ∧ t.meas = { s.meas with contact := t.meas.contact, release := t.meas.release, unseat := t.meas.unseat }
    ∧ t.peers.clashHold = s.peers.clashHold
    ∧ t.halt = { s.halt with faultLamp := t.halt.faultLamp }
    ∧ t.ctrl.contact = s.ctrl.contact
    ∧ t.engine.controlTimer = s.engine.controlTimer ∧ t.engine.commanded ≤ s.engine.commanded
    ∧ t.bus.attempt = s.bus.attempt ∧ t.bus.promptSpent = s.bus.promptSpent ∧ t.bus.retryOffset = s.bus.retryOffset
    ∧ HandsOn s t
    ∧ (s.ctrl.state = .parked → t.ctrl.state ≠ .parked → AsksPromptReport s t .fast)
    ∧ (s.ctrl.state ≠ .parked ∨ t.ctrl.state = .parked → t.bus.report = s.bus.report
        ∧ t.bus.reportTimer = s.bus.reportTimer ∧ t.bus.pendingReport = s.bus.pendingReport)

/-! ## What the halt unit does with one event -/

/-- An entry to HALTED on an event (R28, R108, R114, R149): the causes are added, the first cause is named with its origin, the
contact record and the flag are kept, the outputs are off with the brake SET, its timers stopped and the creep reference at
the stroke, the confirmation counters stop, the lamps follow, and a prompt report stands in the queue where the prompt-spent
flag is clear and no attempt is in progress (R177). -/
abbrev EntersHalted (s t : State) (causes : List Cause) (first : Cause) (origin : Nat) : Prop :=
  t.ctrl.state = .halted
    ∧ t.halt.causes = Cause.insertAll causes s.halt.causes
    ∧ t.halt.first = some { cause := first, origin := origin }
    ∧ t.ctrl.contact = s.ctrl.contact ∧ t.ctrl.assembled = s.ctrl.assembled ∧ t.ctrl.fresh = s.ctrl.fresh
    ∧ t.ctrl.parkTimer = none ∧ t.halt.grace = s.halt.grace
    ∧ t.drive.brake = .set ∧ t.drive.applied = 0 ∧ t.engine.commanded = 0 ∧ t.engine.lastCeiling = 0
    ∧ t.drive.creepReference = t.meas.stroke ∧ t.drive.releaseTimer = none ∧ t.drive.setDelay = none
    ∧ t.drive.stall = 0 ∧ t.drive.extreme = none
    ∧ t.meas.contact.running = false ∧ t.meas.release.running = false ∧ t.meas.unseat.running = false
    ∧ t.ctrl.readyLamp = false ∧ t.halt.faultLamp = true
    ∧ (s.bus.promptSpent = false → s.bus.attempt = none → t.bus.report.any ReportToken.prompt = true)

/-- One event of causes taken, before any transition of the same event (R28, R106, R108, R110, log entry 9): disregarded
in START and CONFIG_FAULT, added in HALTED with the first cause kept, and elsewhere an entry to HALTED. The member marks, the
request table and the sequence stand in every case (R28, R114, R133). -/
abbrev TakesCauses (s t : State) (causes : List Cause) (first : Cause) (origin : Nat) : Prop :=
  (s.ctrl.state.isOperating = false →
      t.ctrl.state = s.ctrl.state ∧ t.halt.causes = s.halt.causes ∧ t.halt.first = s.halt.first)
    ∧ (s.ctrl.state = .halted →
      t.ctrl.state = .halted ∧ t.halt.causes = Cause.insertAll causes s.halt.causes ∧ t.halt.first = s.halt.first)
    ∧ (s.ctrl.state.isOperating = true → s.ctrl.state ≠ .halted → EntersHalted s t causes first origin)
    ∧ t.peers.entries.toList.map Entry.member = s.peers.entries.toList.map Entry.member
    ∧ t.request.slots = s.request.slots ∧ t.request.sequence = s.request.sequence

/-- A number clash taken at an arrival, from `s` (R59, R60): the indication is held 1500 ms; DUPLICATE is raised in the loaded
states and HALTED; elsewhere the assembly does not hold, so READY goes to ASSEMBLING, and JOG loses its flag. -/
abbrev HoldsClash (s t : State) : Prop :=
  t.peers.clashHold = some (t.now + 1500000) ∧ t.start = s.start ∧ t.meas.stroke = s.meas.stroke
    ∧ (s.ctrl.state.raisesPeerCauses = true →
        TakesCauses s t [.duplicate] .duplicate s.ownNumber ∧ t.peers.entries = s.peers.entries ∧ t.request = s.request)
    ∧ (s.ctrl.state.raisesPeerCauses = false → t.halt.causes = s.halt.causes ∧ t.halt.first = s.halt.first ∧ HandsOn s t
        ∧ SettlesFrom { s with peers := { s.peers with clashHold := t.peers.clashHold } } t)
    ∧ (s.ctrl.state = .ready → t.ctrl.state = .assembling ∧ t.ctrl.assembled = false)
    ∧ (s.ctrl.state = .jog → t.ctrl.state = .jog ∧ t.ctrl.assembled = false)
    ∧ (s.ctrl.state = .assembling → t.ctrl.state = .assembling ∧ t.peers.entries = s.peers.entries)

/-! ## What an own report carries -/

/-- The fields of an own report, each from the block that owns it as it stands (R1, R3, R10, R37, R48, R59, R112, R116, R141,
R179, R193, R197): the state by its report code; SLOW in PARKED and CONFIG_FAULT; the start cause with the fresh flag alone;
the lift while the contact record is present; the conflict indication while the table holds requests of both kinds; the
classes by the codes of the causes held; number clash or surplus while the clash is held, or in ASSEMBLING and JOG with the
flag clear and more than N - 1 entries eligible. -/
abbrev CarriesTheBlocks (s : State) (prompt : Bool) (r : ReportFields) : Prop :=
  let lift := s.ctrl.contact.map (fun c => (max 0 (min 200000 (s.meas.stroke - c))).toNat)
  let asks := fun (k : RequestKind) => s.request.slots.toList.any (fun x => x.map Slot.kind == some k)
  let holds := fun (low high : Nat) => s.halt.causes.any (fun c => decide (low ≤ c.code ∧ c.code ≤ high))
  let eligible := s.peers.entries.toList.countP (fun e => e.eligible s.start.digest)
  let surplus := !s.ctrl.assembled && (s.ctrl.state == .assembling || s.ctrl.state == .jog)
    && s.start.config.any (fun o => decide (o.n - 1 < eligible))
  r = { station := BitVec.ofNat 5 s.ownNumber
        unitNumber := BitVec.ofNat 16 s.start.unitNumber
        stateCode := match s.ctrl.state with
          | .start => 0 | .configFault => 1 | .assembling => 2 | .ready => 3 | .jog => 4 | .seating => 5
          | .holding => 6 | .lifting => 7 | .lowering => 8 | .parked => 9 | .unseating => 10 | .halted => 11
        slow := s.ctrl.state == .parked || s.ctrl.state == .configFault
        prompt := prompt
        fresh := s.ctrl.fresh
        liftPresent := s.ctrl.contact.isSome
        supplyLow := s.start.supplyLow
        upperEnd := s.meas.upperEnd
        lowerEnd := s.meas.lowerEnd
        conflict := asks .raise && asks .lower
        safety := holds 1 5
        motion := holds 6 10
        group := holds 11 17
        clashOrSurplus := s.peers.clashHold.isSome || surplus
        bodyIndex := BitVec.ofNat 4 ((s.start.config.map Options.bodyIndex).getD 0)
        reserved := 0
        startCause := if s.ctrl.fresh then
            (match s.start.startCause with | .powerOn => 1 | .brownOut => 2 | .resetPin => 3)
          else 0
        digest := s.start.digest.getD 0
        lift := BitVec.ofNat 24 (lift.getD 0)
        velocity := BitVec.ofInt 16 s.meas.velocity
        load := BitVec.ofNat 16 s.meas.load
        firstCause := BitVec.ofNat 8 ((s.halt.first.map (fun f => f.cause.code)).getD 0)
        origin := BitVec.ofNat 8 ((s.halt.first.map FirstCause.origin).getD 0) }

/-- The values an own report carries fit their fields in lawful states, and are read back as they stand (R104, R116, R193,
R197): the numbers; the first cause by its place in the catalogue; in CONFIG_FAULT the digest and the body index 0 and the
lift absent; outside HALTED no cause, no origin and no class, and in HALTED a first cause with a class. -/
abbrev ReadsBackAsItStands (s : State) (r : ReportFields) : Prop :=
  (StartLaw s → r.station.toNat = s.ownNumber ∧ r.bodyIndex.toNat = (s.start.config.map Options.bodyIndex).getD 0)
    ∧ (s.start.unitNumber < 65536 → r.unitNumber.toNat = s.start.unitNumber)
    ∧ r.lift.toNat = s.ownLift.getD 0
    ∧ (MeasureLaw s → r.velocity.toInt = s.meas.velocity ∧ r.load.toNat = s.meas.load)
    ∧ (∀ f ∈ s.halt.first, 1 ≤ r.firstCause.toNat
        ∧ [Cause.estop, .overtravel, .overload, .sensor, .supplyLow, .creep, .stall, .unseat, .spreadSet, .spreadBody,
            .peerLost, .peerRestart, .duplicate, .babble, .configMismatch, .busBlocked, .peerHalted][r.firstCause.toNat - 1]?
          = some f.cause)
    ∧ (∀ f ∈ s.halt.first, f.origin ≤ 24 → r.origin.toNat = f.origin)
    ∧ (StartLaw s → ContextLaw s → s.ctrl.state = .configFault → r.digest = 0 ∧ r.bodyIndex = 0 ∧ r.liftPresent = false)
    ∧ (HaltLaw s → s.ctrl.state ≠ .halted →
        r.firstCause = 0 ∧ r.origin = 0 ∧ r.safety = false ∧ r.motion = false ∧ r.group = false)
    ∧ (HaltLaw s → s.ctrl.state = .halted → r.firstCause ≠ 0 ∧ (r.safety || r.motion || r.group) = true)

/-! ## Safe runs -/

/-- A lawful state: every law holds. -/
structure Lawful (s : State) : Prop where
  brake : BrakeLaw s
  output : OutputLaw s
  halt : HaltLaw s
  estop : EstopLaw s
  context : ContextLaw s
  members : MembersLaw s
  lampsAndPark : LampsAndParkLaw s
  start : StartLaw s
  ownEntry : OwnEntryLaw s
  entries : EntryLaw s
  request : RequestLaw s
  filter : FilterLaw s
  measure : MeasureLaw s
  bus : BusLaw s

/-- A law kept by the part: from every state that meets it, a step that answers a next state answers one that meets it. -/
def KeptByStep (law : State → Prop) : Prop := ∀ s t : State, law s → step s = .next t → law t

end Sys2Proof.Machine
end

