-- ==== Sys2Proof/Certificates/Slice0/Obligations.lean ====
section
/-! DEFINITION. The statements about the part. A statement of a command says what it writes AND what it leaves; where an event
raises causes, `TakesCauses` says what the halt unit does with them. -/

open Sys2Proof Sys2Proof.Machine

/-! ## The part as a whole -/

/-- A step runs the command at the front of the queue, on the state with the queue's rest. -/
def Obligations.StepRunsTheFrontCommand : Prop :=
  ∀ (c : Instr) (rest : List Instr) (s : State), s.pending = c :: rest → step s = exec c { s with pending := rest }

/-- No command faults or is refused, in any state: each answers a next state, in which the waiting commands are as they were and
the clock has not gone back (the clock's rule is the model's, log entry 2; which commands change nothing else, log
entry 6).
The clock `now` is the model's (log entry 2). -/
def Obligations.EveryCommandCompletes : Prop :=
  ∀ (c : Instr) (s : State), ∃ t, exec c s = .next t ∧ t.pending = s.pending ∧ s.now ≤ t.now

/-- While a reset is held, every command but the onset of a further source and the reset's end leaves the part as it is
(R185).
The model's own in it: such a command is no event (log entry 6). -/
def Obligations.HeldResetFreezesThePart : Prop :=
  ∀ (c : Instr) (s : State), s.start.resetHeld = true → (∀ m r, c ≠ .resetOnset m r) → (∀ m i, c ≠ .resetEnd m i) →
    exec c s = .next s

/-- The chain of transitions ends in a state in which no condition holds, against the same inputs (R4), and that state is the
one the tables of the state controller give: HOLDING, LIFTING, LOWERING, UNSEATING and PARKED by the group command and the
predicates, SEATING, READY and ASSEMBLING by the command and the assembly, JOG with its flag kept or lost (R5, R6, R16,
R17, R19, R22 to R26, R29, R166).
The model's own in it: the transitions that follow read their conditions as levels (log entry 7); what is taken from an absent
configuration is 0 (log entry 18). -/
def Obligations.ChainEndsWhereNoConditionHolds : Prop :=
  ∀ s : State, s.chain.chainStep = s.chain ∧ s.chain.ctrl.state = s.restsIn ∧ SettlesFrom s s.settle

/-- Between two control-timer expiries the commanded output never rises, and at one it rises by at most R (R95, R96).
The model's own in it: the rise R of an absent configuration is 0 (log entry 18). -/
def Obligations.OutputRisesAtControlExpiriesAlone : Prop :=
  ∀ (c : Instr) (s t : State), exec c s = .next t →
    (c ≠ .controlTimerExpiry → t.engine.commanded ≤ s.engine.commanded)
      ∧ (c = .controlTimerExpiry → t.engine.commanded ≤ s.engine.commanded + s.start.rise)

/-! ## Laws every step keeps -/

/-- The brake law is kept by every step, and the drive unit's four lines follow their items: enable and brake release are
asserted exactly while the brake is RELEASING or RELEASED, demand and direction are the applied output and the direction
output; under the law, in START, CONFIG_FAULT and HALTED both are deasserted and the demand is 0 (R144, R150). -/
def Obligations.StepKeepsBrakeLaw : Prop :=
  KeptByStep BrakeLaw
    ∧ ∀ s : State,
      (let on := s.drive.brake = .releasing ∨ s.drive.brake = .released
       (s.drive.enableLine = true ↔ on) ∧ (s.drive.releaseLine = true ↔ on))
        ∧ s.drive.demandLine = s.drive.applied ∧ s.drive.directionLine = s.drive.direction
        ∧ (BrakeLaw s → s.ctrl.state.isResting = true →
            s.drive.enableLine = false ∧ s.drive.releaseLine = false ∧ s.drive.demandLine = 0)

/-- The output law is kept by every step: the commanded output is held below the ceiling of the present state, which is 0 outside
the moving states (R86, R96, R98, R150).
The model's own in it: the ceiling of an absent configuration is 0 (log entry 18). -/
def Obligations.StepKeepsOutputLaw : Prop := KeptByStep OutputLaw

/-- The halt law is kept by every step (R116). -/
def Obligations.StepKeepsHaltLaw : Prop := KeptByStep HaltLaw

/-- The e-stop law is kept by every step (R113). -/
def Obligations.StepKeepsEstopLaw : Prop := KeptByStep EstopLaw

/-- The context law is kept by every step, and the lamps and the park timer follow the state through every step (R8, R14, R24,
R117, R157). -/
def Obligations.StepKeepsContextAndLampLaws : Prop := KeptByStep ContextLaw ∧ KeptByStep LampsAndParkLaw

/-- The membership law is kept by every step (R7). -/
def Obligations.StepKeepsMembersLaw : Prop := KeptByStep MembersLaw

/-- The own entry stays EMPTY, and every entry coherent, through every step (R52, R64, R73). -/
def Obligations.StepKeepsPeerTableLaws : Prop := KeptByStep OwnEntryLaw ∧ KeptByStep EntryLaw

/-- The request law is kept by every step (R18, R20, R127, R133, R139). -/
def Obligations.StepKeepsRequestLaw : Prop := KeptByStep RequestLaw

/-- The start law, the measured ranges with the confirmation counters, and the filters' law are kept by every step (R31, R34,
R42 to R46, R47, R126, R129, R184, R191, R194).
The model's own in it: the moments from which the filters time their inputs (log entry 11). -/
def Obligations.StepKeepsStartAndMeasureLaws : Prop :=
  KeptByStep StartLaw ∧ KeptByStep MeasureLaw ∧ KeptByStep FilterLaw

/-- The bus law is kept by every step (R174, R182). -/
def Obligations.StepKeepsBusLaw : Prop := KeptByStep BusLaw

/-- The state after reset meets every law.
The model's own in it: the first input levels, the unit number and the kind of the reset (log entries 3 to 5). -/
def Obligations.ResetStateIsLawful : Prop := Lawful State.reset

/-! ## Start, configuration and supply -/

/-- RESET_ONSET and RESET_END. The onset gives every block its reset values with no timer running, but for the inputs, which
keep their last levels until they are sampled, and the unit number; a further source during a held reset is seen and changes
nothing else. The end records the start cause, samples the inputs and starts the timers (R3, R31, R55, R77, R103, R125, R143,
R173, R184 to R186). The model's own choices in it, and not the spec's: the inputs and the start cause kept while the reset is
held (log entries 3 and 5), a RESET_END with no reset held that changes nothing (log entry 6), the jog direction UP (log entry
10), the filters' moments (log entry 11), the line idle from the reset (log entry 12), and the held reset and the sources seen
in it as fields (log entry 23).
The clock `now` is the model's (log entry 2). -/
def Obligations.ResetGivesEveryBlockItsResetValues : Prop :=
  ∀ (s : State) (m : Time) (r : ResetSource) (i : InputSample),
    let ctrl : Controller := { state := .start, jogDirection := .up, assembled := false, contact := none, fresh := true,
                               parkTimer := none, readyLamp := false }
    let halt : HaltUnit := { causes := [], first := none, grace := none, faultLamp := false }
    let engine : Engine := { controlTimer := none, commanded := 0, direction := .up, lastCeiling := 0 }
    let drive : Drive := { brake := .set, releaseTimer := none, setDelay := none, commandedCopy := 0, applied := 0,
                           direction := .up, stall := 0, creepReference := 0, extreme := none }
    let entry : Entry := { status := .empty, content := none, lastArrival := none, lastScheduled := none,
                           staleDeadline := none, member := false, early := false, allowance := .available,
                           faulty := false, contested := false, contestDeadline := none }
    let stopped : Counter := { value := 5, running := false }
    let key : KeyInput := { pressed := false, blocked := true, filterFrom := none }
    let meas : Measurement := {
      stroke := 0, encoderA := s.meas.encoderA, encoderB := s.meas.encoderB, ring := Vector.replicate 11 0
      ringFilled := false, velocity := 0, latchedStroke := 0, load := 0, missCount := 0, silent := false
      contact := stopped, release := stopped, unseat := stopped, overloadCount := 0, overload := false
      upperEnd := s.meas.upperEnd, lowerEnd := s.meas.lowerEnd, overtravel := s.meas.overtravel
      upperEndFrom := none, lowerEndFrom := none, overtravelFrom := none
      sampleTimer := none, converterRead := none }
    let request : RequestUnit := {
      raiseKey := key, lowerKey := key, resetKey := key, mode := s.request.mode
      pendantPresent := s.request.pendantPresent, estopAOpen := s.request.estopAOpen
      estopBOpen := s.request.estopBOpen, modeFrom := none, pendantFrom := none, estopAFrom := none, estopBFrom := none
      discrepancySince := none, discrepancyLatch := false, sequence := none
      slots := Vector.replicate 24 none, refusedLamp := none }
    let bus : Time → Bus := fun idleFrom => {
      report := none, motion := none, clear := none, pendingReport := none, pendingMotion := none, reportTimer := none
      promptSpent := false, accessWait := none, retryOffset := 0, attempt := none, receiver := .waitingForIdle
      idleFrom := idleFrom }
    (∃ t, exec (.resetOnset m r) s = .next t ∧ t.now = max s.now m ∧ t.pending = s.pending
      ∧ (s.start.resetHeld = true → t = { s with now := max s.now m, start := s.start.see r })
      ∧ (s.start.resetHeld = false →
          t.start = { resetHeld := true, powerOnSeen := r == .powerOn, brownOutSeen := r == .brownOut,
                      resetPinSeen := r == .resetPin, startCause := s.start.startCause, holdOff := none,
                      optionRead := none, strapReading := none, stationNumber := none,
                      unitNumber := s.start.unitNumber, config := none, digest := none, supplyFilterFrom := none,
                      supplyLow := false }
            ∧ t.ctrl = ctrl ∧ t.halt = halt ∧ t.engine = engine ∧ t.drive = drive ∧ t.bus = bus t.now
            ∧ t.meas = meas ∧ t.request = request
            ∧ t.peers.entries.toList = List.replicate 24 entry ∧ t.peers.clashHold = none
            ∧ t.start.selectLine = false ∧ (∀ x, t.meas.selectLine x = false ∧ t.bus.drivenLevel x = .idle)))
    ∧ (∃ t, exec (.resetEnd m i) s = .next t ∧ t.pending = s.pending
      ∧ (s.start.resetHeld = false → t = s)
      ∧ (s.start.resetHeld = true →
          t.now = max s.now m ∧ t.ctrl.state = .start
            ∧ t.start = { resetHeld := false, powerOnSeen := s.start.powerOnSeen, brownOutSeen := s.start.brownOutSeen,
                          resetPinSeen := s.start.resetPinSeen,
                          startCause := if s.start.powerOnSeen then .powerOn
                            else if s.start.brownOutSeen then .brownOut else .resetPin,
                          holdOff := some (t.now + 200000), optionRead := none, strapReading := none,
                          stationNumber := none, unitNumber := s.start.unitNumber, config := none, digest := none,
                          supplyFilterFrom := some t.now, supplyLow := false }
            ∧ t.meas = { meas with
                encoderA := i.encoderA, encoderB := i.encoderB, upperEnd := i.upperEnd, lowerEnd := i.lowerEnd
                overtravel := i.overtravel, upperEndFrom := some t.now, lowerEndFrom := some t.now
                overtravelFrom := some t.now, sampleTimer := some (t.now + 13000) }
            ∧ t.engine = { engine with controlTimer := some (t.now + 10000) }
            ∧ t.request = { request with
                raiseKey := { key with filterFrom := some t.now }, lowerKey := { key with filterFrom := some t.now }
                resetKey := { key with filterFrom := some t.now }, modeFrom := some t.now, pendantFrom := some t.now
                estopAFrom := some t.now, estopBFrom := some t.now
                mode := i.mode, pendantPresent := i.pendantPresent, estopAOpen := i.estopAOpen, estopBOpen := i.estopBOpen
                discrepancySince := if i.estopAOpen = i.estopBOpen then none else some t.now }
            ∧ t.peers.entries.toList = List.replicate 24 entry ∧ t.peers.clashHold = none
            ∧ t.ctrl = ctrl ∧ t.halt = halt ∧ t.drive = drive ∧ t.bus = bus t.now))

/-- HOLD_OFF_EXPIRY: the straps are read as the sum of the weights of the fitted ones, and the option read runs 1.184 ms, with
the select line driven through it, 296 clock periods of 4 µs on the clock line, and the bits of the command 03h and of the
address 00h sent in the first sixteen of them, the most significant bit of each first, which is the model's choice (R187, R189,
R190).
The model's own in it: the reading is kept to the end of the option read (log entry 23); the bits of the command and of the
address are sent the most significant first (log entry 26).
The clock `now` is the model's (log entry 2). -/
def Obligations.HoldOffEndReadsTheStraps : Prop :=
  ∀ (s : State) (due : Time) (straps : BitVec 5), s.start.resetHeld = false → s.start.holdOff = some due →
    ∃ t, exec (.holdOffExpiry straps) s = .next t
      ∧ t = { s with now := max s.now due, start := { s.start with
          holdOff := none
          optionRead := some (max s.now due + 1184)
          strapReading := some ((straps.getLsbD 0).toNat + 2 * (straps.getLsbD 1).toNat
            + 4 * (straps.getLsbD 2).toNat + 8 * (straps.getLsbD 3).toNat + 16 * (straps.getLsbD 4).toNat) } }
      ∧ t.start.selectLine = true ∧ t.start.clockPeriod (t.now + 1184) = none
      ∧ (∀ k ∈ List.range 296, ∀ j ∈ List.range 4, t.start.clockPeriod (t.now + 4 * k + j) = some k
          ∧ t.start.portBit (t.now + 4 * k + j) = (if k < 16 then some (decide (k = 6 ∨ k = 7)) else none))

/-- OPTION_READ_END with a valid station number and a valid block: the entry to ASSEMBLING as one change, and on into HALTED
where a level condition stands, named by the highest priority (R113, R188, R192).
The model's own in it: the straps' reading is the one kept since the end of the hold-off (log entry 23).
The clock `now` is the model's (log entry 2). -/
def Obligations.ValidStartEntersAssembling : Prop :=
  ∀ (s : State) (due : Time) (data : BitVec 280) (n : Nat) (o : Options),
    s.start.resetHeld = false → s.start.optionRead = some due → s.ctrl.state = .start →
    s.start.strapReading = some n → 1 ≤ n ∧ n ≤ 24 → readOptions (blockOf data) = some o →
    OwnEntryLaw s → HaltLaw s →
    ∃ t, exec (.optionReadEnd data) s = .next t
      ∧ t.start = { s.start with
          optionRead := none, stationNumber := some n, config := some o
          digest := some (crc16 (((blockOf data).drop 1).take 20)) }
      ∧ t.now = max s.now due ∧ t.ctrl.assembled = false ∧ t.ctrl.fresh = s.ctrl.fresh
      ∧ t.ctrl.contact = s.ctrl.contact
      ∧ t.drive.creepReference = s.meas.stroke ∧ t.engine.commanded = 0
      ∧ t.peers = s.peers ∧ t.request.slots.toList = List.replicate 24 none ∧ t.request.sequence = none
      ∧ t.request.raiseKey = s.request.raiseKey ∧ t.request.lowerKey = s.request.lowerKey
      ∧ t.request.resetKey = s.request.resetKey
      ∧ t.bus.reportTimer = some { due := t.now + 20000, interval := .fast }
      ∧ t.meas.stroke = s.meas.stroke ∧ t.meas.load = s.meas.load ∧ t.meas.overload = s.meas.overload
      ∧ t.meas.overloadCount = s.meas.overloadCount
      ∧ (let present := ((if s.request.estopCondition then [Cause.estop] else [])
            ++ (if s.meas.overtravel then [.overtravel] else []) ++ (if s.meas.overload then [.overload] else [])
            ++ (if s.meas.silent then [.sensor] else [])
            ++ (if s.start.supplyLow && o.policy == .halt then [.supplyLow] else []) : List Cause)
         t.halt.causes = present
           ∧ t.halt.first = present.head?.map (fun c => { cause := c, origin := n })
           ∧ t.ctrl.state = (if present = [] then .assembling else .halted)
           ∧ (present = [] → t.bus.report = s.bus.report)
           ∧ (present ≠ [] → t.drive.brake = .set ∧ (s.bus.promptSpent = false → s.bus.attempt = none →
                s.bus.isEmpty = true →
                t.bus.report = some { prompt := true, entered := t.now, attempts := 0 })))

/-- OPTION_READ_END with an invalid station number or block: CONFIG_FAULT, silent with an invalid number, reporting SLOW
with a valid one (R15, R117, R149, R193).
The model's own in it: the straps' reading is the one kept since the end of the hold-off (log entry 23).
The clock `now` is the model's (log entry 2). -/
def Obligations.InvalidStartEntersConfigFault : Prop :=
  ∀ (s : State) (due : Time) (data : BitVec 280) (n : Nat),
    s.start.resetHeld = false → s.start.optionRead = some due → s.ctrl.state = .start →
    s.start.strapReading = some n → s.start.config = none → ¬(1 ≤ n ∧ n ≤ 24) ∨ readOptions (blockOf data) = none →
    ∃ t, exec (.optionReadEnd data) s = .next t
      ∧ t.now = max s.now due ∧ t.ctrl.state = .configFault
      ∧ t.start = { s.start with
          optionRead := none, stationNumber := if 1 ≤ n ∧ n ≤ 24 then some n else none }
      ∧ t.bus = { s.bus with reportTimer :=
          (if 1 ≤ n ∧ n ≤ 24 then some { due := t.now + 500000, interval := .slow } else s.bus.reportTimer) }
      ∧ t.drive.brake = .set ∧ t.drive.applied = 0 ∧ t.drive.releaseTimer = none ∧ t.drive.setDelay = none
      ∧ t.drive.creepReference = s.drive.creepReference ∧ t.engine.commanded = 0
      ∧ t.halt = { s.halt with faultLamp := true } ∧ t.ctrl.readyLamp = s.ctrl.assembled
      ∧ t.peers = s.peers ∧ t.request = s.request
      ∧ t.ctrl.contact = s.ctrl.contact ∧ t.ctrl.fresh = s.ctrl.fresh

/-- The option port's data line carries 35 bytes, the most significant bit of each first (R190), and an option block is valid
exactly when it has 35 bytes, its stored CRC is that of bytes 0..32, its mark is 41h and every field, read at its place, is
in its range (R191, R199).
The model's own in it: a block of another length, which no command gives, counts as invalid (log entry 17). -/
def Obligations.OptionBlockValidExactlyInRange : Prop :=
  ∀ (data : BitVec 280) (block : List Byte) (o : Options),
    ((blockOf data).length = 35
      ∧ ∀ k < 35, ∀ j < 8, ((blockOf data).getD k 0#8).getMsbD j = data.getMsbD (8 * k + j))
    ∧ (readOptions block = some o ↔
      (let byte := fun k => (block.getD k 0#8).toNat
       let word := fun k => 256 * byte k + byte (k + 1)
       block.length = 35 ∧ word 33 = (crc16 (block.take 33)).toNat ∧ byte 0 = 0x41 ∧ byte 16 ≤ 1
         ∧ o = { n := byte 1, window := word 2, spreadBody := word 4, spreadSet := word 6, vRaise := word 8,
                 vLower := word 10, dMin := byte 12, ramp := byte 13, seatSpeed := byte 14, parkDelay := byte 15,
                 policy := if byte 16 = 1 then .halt else .derate, creepLimit := word 17, unseatLift := word 19,
                 bodyIndex := byte 21, fullScale := word 22, zero := word 24, contactThreshold := word 26,
                 releaseThreshold := word 28, overloadLimit := word 30, brakeReleaseTime := byte 32 }
         ∧ (2 ≤ o.n ∧ o.n ≤ 24) ∧ (50 ≤ o.window ∧ o.window ≤ 2000)
         ∧ (o.window + 1 ≤ o.spreadBody ∧ o.spreadBody ≤ 10000)
         ∧ (o.spreadBody ≤ o.spreadSet ∧ o.spreadSet ≤ 20000)
         ∧ (100 ≤ o.vRaise ∧ o.vRaise ≤ 1000) ∧ (100 ≤ o.vLower ∧ o.vLower ≤ 1000)
         ∧ (20 ≤ o.dMin ∧ o.dMin ≤ o.vRaise / 2 ∧ o.dMin ≤ o.vLower / 2 ∧ o.dMin ≤ o.seatSpeed / 2)
         ∧ (5 ≤ o.ramp ∧ o.ramp ≤ 200) ∧ (50 ≤ o.seatSpeed ∧ o.seatSpeed ≤ 250)
         ∧ (10 ≤ o.parkDelay ∧ o.parkDelay ≤ 250) ∧ (20 ≤ o.creepLimit ∧ o.creepLimit ≤ 500)
         ∧ (100 ≤ o.unseatLift ∧ o.unseatLift ≤ 2000) ∧ o.bodyIndex ≤ 11
         ∧ (500 ≤ o.fullScale ∧ o.fullScale ≤ 4000) ∧ o.zero ≤ 400 ∧ 5 ≤ o.contactThreshold
         ∧ (1 ≤ o.releaseThreshold ∧ o.releaseThreshold + 1 ≤ o.contactThreshold)
         ∧ (o.contactThreshold + 1 ≤ o.overloadLimit ∧ o.overloadLimit ≤ o.fullScale)
         ∧ (5 ≤ o.brakeReleaseTime ∧ o.brakeReleaseTime ≤ 50)))

/-- SUPPLY_LOW_CHANGE, taken no earlier than the filter's 50 ms (log entry 11): the onset under DERATE halves the last ceiling
and lowers the output to it, under HALT raises SUPPLY_LOW, and with no policy in force does nothing more; the end of the
indication changes it alone (R88, R194, R195).
The clock `now` is the model's (log entry 2). -/
def Obligations.SupplyLowActsByPolicy : Prop :=
  ∀ (s : State) (m : Time) (low : Bool), s.start.resetHeld = false → s.start.supplyLow = !low →
    ∃ t, exec (.supplyLowChange m low) s = .next t
      ∧ t.now = max s.now (max m (s.start.supplyFilterFrom.getD 0 + 50000))
      ∧ t.start = { s.start with supplyLow := low, supplyFilterFrom := some t.now }
      ∧ t.peers = s.peers ∧ t.request = s.request
      ∧ (low = false → t = { s with now := t.now, start := t.start })
      ∧ (low = true → s.start.config = none → t = { s with now := t.now, start := t.start })
      ∧ (low = true → s.start.config.map Options.policy = some .derate →
          t = { s with now := t.now, start := t.start, engine := t.engine, drive := t.drive }
            ∧ t.engine = { s.engine with
                lastCeiling := s.engine.lastCeiling / 2
                commanded := min s.engine.commanded (s.engine.lastCeiling / 2) }
            ∧ (OutputLaw s → t.drive.applied ≤ t.engine.commanded ∧ t.drive.commandedCopy = t.engine.commanded)
            ∧ t.drive.brake = s.drive.brake)
      ∧ (low = true → s.start.config.map Options.policy = some .halt →
          TakesCauses s t [.supplyLow] .supplyLow s.ownNumber ∧ t.meas.load = s.meas.load)

/-! ## Jack measurement -/

/-- ENCODER_EDGE with one channel changed: the stroke counts one step of the sequence, saturating; with both changed nothing
is counted and SENSOR is raised, the peer table and the request table standing (R28, R114); the new levels are kept, and every
other measured value stands (R32, R33, R34). In START
and CONFIG_FAULT nothing else changes.
The model's own in it: a sample with the levels of the last one is no edge (log entry 6).
The clock `now` is the model's (log entry 2). -/
def Obligations.EncoderSampleCountsOneEdge : Prop :=
  ∀ (s : State) (m : Time) (a b : Bool), s.start.resetHeld = false →
    ∃ t, exec (.encoderEdge m a b) s = .next t
      ∧ t.now = max s.now m ∧ t.meas.encoderA = a ∧ t.meas.encoderB = b
      ∧ t.meas.ring = s.meas.ring ∧ t.meas.velocity = s.meas.velocity ∧ t.meas.load = s.meas.load
      ∧ t.meas.latchedStroke = s.meas.latchedStroke ∧ t.start = s.start
      ∧ (let one := (a != s.meas.encoderA) != (b != s.meas.encoderB)
         let both := (a != s.meas.encoderA) && (b != s.meas.encoderB)
         let forward := one && a == !s.meas.encoderB && b == s.meas.encoderA
         t.meas.stroke = (if forward then (if s.meas.stroke < 1000000 then s.meas.stroke + 1 else s.meas.stroke)
             else if one then (if -1000000 < s.meas.stroke then s.meas.stroke - 1 else s.meas.stroke)
             else s.meas.stroke)
           ∧ (one = false → both = false → t = { s with now := t.now })
           ∧ (both = true → TakesCauses s t [.sensor] .sensor s.ownNumber ∧ t.peers = s.peers ∧ t.request = s.request)
           ∧ (s.ctrl.state.isOperating = false → t = { s with now := t.now, meas := t.meas }))

/-- The creep watch at a counted edge, from ASSEMBLING on: CREEP is raised exactly when the stroke has departed from the
reference of a SET or RELEASING brake, or gone back from the extreme of a RELEASED one, by more than the creep limit; the
brake is then SET with its reference at the stroke, the peer table and the request table standing (R28, R114, R149, R154 to R156).
Otherwise the extreme of a RELEASED brake moves on with the count in the drive's direction, and the state controller judges the
new lift (R13, R37, R155).
The model's own in it: an event that raises a cause and meets a transition takes the cause first (R28, log entry 9); the
transitions that follow read their conditions as levels (log entry 7). -/
def Obligations.CreepIsJudgedAtEachCount : Prop :=
  ∀ (s : State) (m : Time) (a b : Bool) (o : Options) (x : Int), s.start.resetHeld = false →
    s.ctrl.state.isOperating = true → s.start.config = some o → BrakeLaw s → HaltLaw s →
    x = countStroke s.meas.stroke (encoderStep s.meas.encoderA s.meas.encoderB a b) → x ≠ s.meas.stroke →
    ∃ t, exec (.encoderEdge m a b) s = .next t ∧ t.meas.stroke = x
      ∧ (let gone : Bool :=
           if s.drive.brake = .released then
             match s.drive.extreme, s.drive.direction with
             | some e, .up => decide (x < e - o.creepLimit)
             | some e, .down => decide (e + o.creepLimit < x)
             | none, _ => false
           else decide (x < s.drive.creepReference - o.creepLimit ∨ s.drive.creepReference + o.creepLimit < x)
         (gone = true → TakesCauses s t [.creep] .creep s.ownNumber ∧ t.drive.creepReference = x
             ∧ t.peers = s.peers ∧ t.request = s.request)
           ∧ (gone = false → t.halt.causes = s.halt.causes ∧ t.halt.first = s.halt.first
               ∧ SettlesFrom { s with meas := { s.meas with stroke := x } } t ∧ HandsOn s t
               ∧ (t.ctrl.state = s.ctrl.state → t.drive = { s.drive with
                   extreme := if s.drive.brake = .released then
                       s.drive.extreme.map (fun e => if s.drive.direction = .up then max e x else min e x)
                     else s.drive.extreme })
               ∧ (s.ctrl.state = .halted → t.ctrl.state = .halted ∧ t.drive.creepReference = s.drive.creepReference)))

/-- SAMPLE_TIMER_EXPIRY: the stroke is latched and pushed, the velocity is formed, a converter read of 20 µs begins, which
asserts the select line, drives 16 clock periods of 1 µs and releases the select line, and the stall counter steps; at 100
STALL is raised and the counter returns to 0; in every state, START and CONFIG_FAULT among them (R35, R36, R38, R152, R153).
The model's own in it: the moments of the first clock period and of the release within the 20 µs are free values, and the 16
periods follow one another without a gap (log entry 24); what is taken from an absent configuration is 0 (log entry 18).
The clock `now` is the model's (log entry 2). -/
def Obligations.SampleExpiryFormsVelocityAndWatchesStall : Prop :=
  ∀ (s : State) (due : Time), s.start.resetHeld = false → s.meas.sampleTimer = some due →
    ∃ t, exec .sampleTimerExpiry s = .next t ∧ t.now = max s.now due
      ∧ t.meas.latchedStroke = s.meas.stroke
      ∧ t.meas.ring.toList = (if s.meas.ringFilled then s.meas.ring.toList.tail ++ [s.meas.stroke]
          else List.replicate 11 s.meas.stroke)
      ∧ t.meas.ringFilled = true
      ∧ t.meas.velocity = max (-999) (min 999 (t.meas.ring[10] - t.meas.ring[0]))
      ∧ t.meas.sampleTimer = some (due + 10000) ∧ t.meas.converterRead = some (t.now + 20)
      ∧ t.meas.stroke = s.meas.stroke ∧ t.meas.load = s.meas.load ∧ t.peers = s.peers ∧ t.request = s.request
      ∧ t.start = s.start
      ∧ (∃ first release : Nat, first + 16 ≤ release ∧ release ≤ 20
          ∧ ∀ x : Nat, t.meas.selectLine (t.now + x) = decide (x < release)
            ∧ t.meas.clockPeriod (t.now + x) = (if first ≤ x ∧ x < first + 16 then some (x - first) else none))
      ∧ (let dMin := (s.start.config.map Options.dMin).getD 0
         let counts := s.drive.brake = .released ∧ dMin ≤ s.drive.applied ∧ -1 ≤ t.meas.velocity
            ∧ t.meas.velocity ≤ 1
         (¬counts → t = { s with now := t.now, meas := t.meas, drive := { s.drive with stall := 0 } })
           ∧ (counts → s.drive.stall < 99 →
               t = { s with now := t.now, meas := t.meas, drive := { s.drive with stall := s.drive.stall + 1 } })
           ∧ (counts → 99 ≤ s.drive.stall →
               t.drive.stall = 0 ∧ TakesCauses s t [.stall] .stall s.ownNumber))

/-- CONVERTER_READ_END. A good sample scales the load, ends the silence and resets the miss count, and steps the overload count
and each running counter; OVERLOAD is raised at the onset of its condition, UNSEAT when the unseat counter reaches 0, from
where it returns to 5, and the two as one event when one sample completes both; in JOG upward a load that reaches the
contact threshold brings the output to 0 at once; where none of this happens and nothing is confirmed, nothing else
changes. A miss holds the load, counts, restarts the running counters, and at the fifth makes the converter silent and
raises SENSOR. A cause leaves the peer table and the request table as they stand (R28, R38 to R46, R50, R94, R107, R114).
The model's own in it: a good sample that raises OVERLOAD or UNSEAT and also confirms contact or release takes the cause, and
HALTED overtakes the confirmation, the contact record staying as it was (R28, log entry 9).
The clock `now` is the model's (log entry 2). -/
def Obligations.ConverterReadIsSampleOrMiss : Prop :=
  ∀ (s : State) (due : Time) (reply : BitVec 16), s.start.resetHeld = false → s.meas.converterRead = some due →
    ∃ t, exec (.converterReadEnd reply) s = .next t ∧ t.now = max s.now due ∧ t.meas.converterRead = none
      ∧ (∀ x, t.meas.selectLine x = false ∧ t.meas.clockPeriod x = none)
      ∧ t.meas.stroke = s.meas.stroke ∧ t.meas.velocity = s.meas.velocity ∧ t.start = s.start
      ∧ (let good := reply.getLsbD 15 = false ∧ reply.getLsbD 14 = true
         let raw := reply.toNat / 4 % 4096
         let start := (s.start.config.map Options.zero).getD 0
         let fullScale := (s.start.config.map Options.fullScale).getD 4000
         let limit := (s.start.config.map Options.overloadLimit).getD 4000
         let load := min ((raw - start) * fullScale / 4095) 4000
         let atContact := s.start.config.any (fun o => decide (o.contactThreshold ≤ load))
         let belowRelease := s.start.config.any (fun o => decide (load < o.releaseThreshold))
         let comesAway := s.start.config.any (fun o => s.ctrl.contact.any (fun x =>
           decide ((o.unseatLift : Int) ≤ max 0 (min 200000 (s.meas.latchedStroke - x)) ∧ load < o.releaseThreshold)))
         let stepped := fun (c : Counter) (holds : Bool) =>
           if c.running then { c with value := if holds then c.value - 1 else 5 } else c
         let overloads := limit ≤ load ∧ s.meas.overload = false ∧ 2 ≤ s.meas.overloadCount
         let unseats := s.meas.unseat.running = true ∧ comesAway = true ∧ s.meas.unseat.value ≤ 1
         let confirms := s.ctrl.state = .seating ∧ s.meas.contact.running = true ∧ s.meas.contact.value ≤ 1
               ∧ atContact = true
             ∨ s.ctrl.state = .unseating ∧ s.meas.release.running = true ∧ s.meas.release.value ≤ 1
               ∧ belowRelease = true
         let reaches := s.ctrl.state = .jog ∧ s.ctrl.jogDirection = .up ∧ atContact = true
           ∧ s.start.config.any (fun o => decide (s.meas.load < o.contactThreshold)) = true
         (good → t.meas.load = load ∧ t.meas.missCount = 0 ∧ t.meas.silent = false
             ∧ t.meas.overloadCount = (if limit ≤ load then min (s.meas.overloadCount + 1) 3 else 0)
             ∧ t.meas.overload
               = (decide (limit ≤ load) && (s.meas.overload || decide (2 ≤ s.meas.overloadCount)))
             ∧ (overloads ∨ unseats → t.peers = s.peers ∧ t.request = s.request)
             ∧ (overloads ∧ ¬unseats → TakesCauses s t [.overload] .overload s.ownNumber)
             ∧ (¬overloads ∧ unseats → TakesCauses s t [.unseat] .unseat s.ownNumber)
             ∧ (overloads ∧ unseats → TakesCauses s t [.overload, .unseat] .overload s.ownNumber)
             ∧ (unseats → t.meas.unseat.value = 5)
             ∧ (¬overloads ∧ ¬unseats → t.halt.causes = s.halt.causes ∧ t.halt.first = s.halt.first
                 ∧ (¬confirms → t.meas = { s.meas with
                       converterRead := none, load := load, missCount := 0, silent := false
                       contact := stepped s.meas.contact atContact
                       release := stepped s.meas.release belowRelease
                       unseat := stepped s.meas.unseat comesAway
                       overloadCount := t.meas.overloadCount, overload := t.meas.overload }
                     ∧ (reaches →
                         t = { s with now := t.now, meas := t.meas, engine := { s.engine with commanded := 0 }, drive := t.drive }
                         ∧ t.drive.applied = 0 ∧ t.drive.commandedCopy = 0 ∧ t.drive.brake = s.drive.brake)
                     ∧ (¬reaches → t = { s with now := t.now, meas := t.meas }))))
           ∧ (¬good → t.meas.load = s.meas.load ∧ t.meas.missCount = min (s.meas.missCount + 1) 5
             ∧ t.meas.silent = decide (4 ≤ s.meas.missCount) ∧ t.meas.overload = s.meas.overload
             ∧ t.meas.overloadCount = 0
             ∧ (s.meas.contact.running = true → t.meas.contact.value = 5)
             ∧ (s.meas.release.running = true → t.meas.release.value = 5)
             ∧ (s.meas.unseat.running = true → t.meas.unseat.value = 5)
             ∧ (t.meas.silent = true → s.meas.silent = false → TakesCauses s t [.sensor] .sensor s.ownNumber
                 ∧ t.peers = s.peers ∧ t.request = s.request)
             ∧ (t.meas.silent = false ∨ s.meas.silent = true → t = { s with now := t.now, meas := t.meas })))

/-- The confirmations, at a good sample without an onset of overload. In SEATING the fifth sample in a row at or above the
contact threshold sets the contact record to the latched stroke and enters HOLDING, and on by the tables, to LIFTING where
the members are poised under RAISE; an earlier one steps the counter alone. In UNSEATING the fifth below the release
threshold discards the record and enters READY, or ASSEMBLING where the assembly does not hold (R14, R22, R27, R43, R44).
The model's own in it: the transitions that follow read their conditions as levels (log entry 7).
The clock `now` is the model's (log entry 2). -/
def Obligations.ConfirmationsSetAndDropTheContactRecord : Prop :=
  ∀ (s : State) (due : Time) (reply : BitVec 16) (o : Options), s.start.resetHeld = false →
    s.meas.converterRead = some due → s.start.config = some o →
    reply.getLsbD 15 = false → reply.getLsbD 14 = true →
    ¬(o.overloadLimit ≤ scaleLoad o.zero o.fullScale (reply.toNat / 4 % 4096) ∧ s.meas.overload = false
      ∧ 2 ≤ s.meas.overloadCount) →
    ∃ t, exec (.converterReadEnd reply) s = .next t
      ∧ (let load := scaleLoad o.zero o.fullScale (reply.toNat / 4 % 4096)
         (s.ctrl.state = .seating → s.meas.contact.running = true → s.meas.contact.value = 1 →
             s.meas.unseat.running = false → o.contactThreshold ≤ load →
             HandsOn s t
               ∧ SettlesFrom { s with ctrl := { s.ctrl with contact := some s.meas.latchedStroke, state := .holding } } t)
           ∧ (s.ctrl.state = .unseating → s.meas.release.running = true → s.meas.release.value = 1 →
             s.meas.unseat.running = false → load < o.releaseThreshold →
             HandsOn s t ∧ SettlesFrom { s with ctrl := { s.ctrl with contact := none, state := .ready } } t)
           ∧ (s.ctrl.state = .seating → s.command = .raise → s.meas.contact.running = true →
             s.meas.unseat.running = false → o.contactThreshold ≤ load →
             (s.meas.contact.value = 1 →
               t.ctrl.contact = some s.meas.latchedStroke
                 ∧ t.ctrl.state = (if s.peers.entries.toList.all (fun e => !e.member || e.reports StationState.isPoised)
                     then .lifting else .holding)
                 ∧ t.meas.contact.running = false ∧ t.meas.unseat = { value := 5, running := true }
                 ∧ t.ctrl.assembled = s.ctrl.assembled ∧ t.peers = s.peers ∧ t.request = s.request)
             ∧ (2 ≤ s.meas.contact.value →
               t = { s with now := t.now, meas := t.meas }
                 ∧ t.meas.contact = { value := s.meas.contact.value - 1, running := true }))
           ∧ (s.ctrl.state = .seating → s.meas.contact.running = true → s.meas.unseat.running = false →
               load < o.contactThreshold →
               t = { s with now := t.now, meas := t.meas } ∧ t.meas.contact = { value := 5, running := true })
           ∧ (s.ctrl.state = .unseating → s.command ≠ .raise → s.meas.release.running = true →
               s.meas.unseat.running = false → s.meas.release.value = 1 → load < o.releaseThreshold →
               t.ctrl.contact = none ∧ t.meas.release.running = false
                 ∧ (s.assemblyHolds = true → t.ctrl.state = .ready ∧ t.ctrl.assembled = s.ctrl.assembled
                     ∧ t.peers = s.peers ∧ t.request = s.request)
                 ∧ (s.assemblyHolds = false → s.groupAssembled = false → t.ctrl.state = .assembling
                     ∧ t.ctrl.assembled = false ∧ t.peers.memberCount = 0)))

/-- SWITCH_FILTER_CHANGE: the filtered state changes; an end switch that turns active in a moving state toward it brings the
output to 0 at once and changes no state; the overtravel switch turning active raises OVERTRAVEL; any other change stands
alone. It is taken no earlier than 5 ms after the last change of its switch (R47 to R49, R94).
The model's own in it: a filtered change is taken no earlier than its filter's time after the moment from which the filter
times its input (log entry 11).
The clock `now` is the model's (log entry 2). -/
def Obligations.SwitchChangeClampsOrHalts : Prop :=
  ∀ (s : State) (m : Time) (w : JackSwitch) (active : Bool), s.start.resetHeld = false →
    s.meas.switch w = !active →
    ∃ t, exec (.switchFilterChange m w active) s = .next t
      ∧ t.now = max s.now (max m ((s.meas.switchFrom w).getD 0 + 5000))
      ∧ t.meas = { s.meas with
          upperEnd := t.meas.upperEnd, lowerEnd := t.meas.lowerEnd, overtravel := t.meas.overtravel
          upperEndFrom := if w = .upperEnd then some t.now else s.meas.upperEndFrom
          lowerEndFrom := if w = .lowerEnd then some t.now else s.meas.lowerEndFrom
          overtravelFrom := if w = .overtravel then some t.now else s.meas.overtravelFrom
          contact := t.meas.contact, release := t.meas.release, unseat := t.meas.unseat }
      ∧ t.meas.upperEnd = (if w = .upperEnd then active else s.meas.upperEnd)
      ∧ t.meas.lowerEnd = (if w = .lowerEnd then active else s.meas.lowerEnd)
      ∧ t.meas.overtravel = (if w = .overtravel then active else s.meas.overtravel)
      ∧ t.meas.stroke = s.meas.stroke ∧ t.meas.load = s.meas.load
      ∧ t.start = s.start ∧ t.peers = s.peers ∧ t.request = s.request
      ∧ (let toward := active = true
            ∧ (w = .upperEnd ∧ s.ctrl.state.motion s.ctrl.jogDirection = some .up
              ∨ w = .lowerEnd ∧ s.ctrl.state.motion s.ctrl.jogDirection = some .down)
         (toward → t.engine = { s.engine with commanded := 0 } ∧ t.drive.applied = 0
             ∧ t.drive.commandedCopy = 0 ∧ t.drive.brake = s.drive.brake
             ∧ (0 < s.start.dMin → t.drive.stall = 0)
             ∧ t.ctrl = s.ctrl ∧ t.halt = s.halt ∧ t.bus = s.bus)
           ∧ (active = true → w = .overtravel → TakesCauses s t [.overtravel] .overtravel s.ownNumber)
           ∧ (¬toward → ¬(active = true ∧ w = .overtravel) → t = { s with now := t.now, meas := t.meas }))

/-! ## Synchronised motion -/

/-- The predicted lift of a member (R82): the lift held in the entry carried forward by the velocity held in it over the age,
truncated toward zero, and clamped to 0..200000, with the magnitudes the rule states; the clamped value is the one the
reference and the spread take. -/
def Obligations.PredictionCarriesTheReportForward : Prop :=
  ∀ (lift : Nat) (v : Int) (age : Nat), lift ≤ 200000 → -999 ≤ v → v ≤ 999 → age ≤ 100 →
    (let correction : Int := if 0 ≤ v * age then v * age / 100 else -(-(v * age) / 100)
     let p : Int := max 0 (min 200000 (lift + correction))
     ((predictedLift lift v age : Nat) : Int) = p
       ∧ (-99900 ≤ v * age ∧ v * age ≤ 99900) ∧ (-999 ≤ correction ∧ correction ≤ 999)
       ∧ (-999 ≤ lift + correction ∧ lift + correction ≤ 200999)
       ∧ (∀ (s : State) (n : Nat) (e : Entry) (c : Content) (arrival : Time),
           Table.get s.peers.entries n = some e → e.member = true → e.status = .fresh → e.content = some c →
           c.lift = some lift → c.velocity = v → e.lastArrival = some arrival →
           age = min ((s.now - arrival) / 1000) 100 →
           (c.bodyIndex, p.toNat) ∈ s.predictions))

/-- The reference is the least of the own lift and the predicted lifts when raising, the greatest when lowering, and the own
lift when no member is predicted; the lead is how far the own lift is ahead of it, 0 when the station is the reference
itself, and at most 200000 (R84, R85). The station's lead is that of its own lift over the lifts it predicts, which are
those of its FRESH members that hold a lift and no others (R81, R83). -/
def Obligations.ReferenceIsLeastOrGreatestLift : Prop :=
  ∀ (own : Nat) (lifts : List Nat) (dir : Direction), own ≤ 200000 → (∀ x ∈ lifts, x ≤ 200000) →
    (let r := reference dir own lifts
     r ∈ own :: lifts ∧ (dir = .up → ∀ x ∈ own :: lifts, r ≤ x) ∧ (dir = .down → ∀ x ∈ own :: lifts, x ≤ r)
       ∧ (lifts = [] → r = own)
       ∧ ((lead dir own r : Nat) : Int) = (if dir = .up then (own : Int) - r else (r : Int) - own)
       ∧ (own = r → lead dir own r = 0) ∧ lead dir own r ≤ 200000)
    ∧ (∀ s : State,
        s.leadOf dir = lead dir (s.ownLift.getD 0) (reference dir (s.ownLift.getD 0) (s.predictions.map Prod.snd))
          ∧ (∀ p ∈ s.predictions, ∃ n e c l arrival, Table.get s.peers.entries n = some e ∧ e.member = true
              ∧ e.status = .fresh ∧ e.content = some c ∧ c.lift = some l ∧ e.lastArrival = some arrival
              ∧ p = (c.bodyIndex, predictedLift l c.velocity (min ((s.now - arrival) / 1000) 100))))

/-- The demand of LIFTING and LOWERING is formed from the lead (R90): 0 at a lead of W or more; below W the greater of d_min
and the proportional term, which lies within d_min..the ceiling, is the ceiling at lead 0 and d_min at lead W - 1 under a
ceiling below W; the product is at most 2,000,000. -/
def Obligations.LeadDemandLiesBetweenDMinAndCeiling : Prop :=
  ∀ (s : State) (o : Options) (e : Nat), s.start.config = some o → o.inRange = true →
    s.ctrl.state = .lifting ∨ s.ctrl.state = .lowering →
    (let c := s.start.ceiling s.ctrl.state
     s.demand o c = leadDemand o c (s.leadOf (if s.ctrl.state = .lifting then .up else .down))
       ∧ (o.window ≤ e → leadDemand o c e = 0)
       ∧ (e < o.window → leadDemand o c e = max o.dMin (c * (o.window - e) / o.window)
           ∧ o.dMin ≤ leadDemand o c e ∧ leadDemand o c e ≤ c)
       ∧ leadDemand o c 0 = c
       ∧ (c < o.window → leadDemand o c (o.window - 1) = o.dMin)
       ∧ o.dMin ≤ c ∧ c * (o.window - e) / o.window ≤ c
       ∧ c * (o.window - e) ≤ 2000000)

/-- CONTROL_TIMER_EXPIRY, where no spread is beyond its limit: the ceiling, the demand of the state, the clamps, the direction
change, the ramp and the final clamp give the commanded output, which is handed over; the stall counter returns to 0 where
the hand-over brings the applied output below d_min, and the extreme is taken afresh where it turns a released drive;
without a configuration, in START and CONFIG_FAULT, the output is 0; nothing outside the engine and the drive unit changes (R77,
R78, R86 to R97, R99, R150 to R152, R155).
The model's own in it: what is taken from an absent configuration is 0 (log entry 18).
The clock `now` is the model's (log entry 2). -/
def Obligations.ControlExpiryFormsTheOutput : Prop :=
  ∀ (s : State) (due : Time), s.start.resetHeld = false → s.engine.controlTimer = some due →
    (s.tick due).spreadCauses = [] →
    ∃ t, exec .controlTimerExpiry s = .next t
      ∧ t = { s with now := max s.now due, engine := t.engine, drive := t.drive }
      ∧ t.engine.controlTimer = some (due + 10000)
      ∧ (s.start.config = none →
          t.engine.lastCeiling = 0 ∧ t.engine.commanded = 0
            ∧ t.engine.direction = (s.ctrl.state.motion s.ctrl.jogDirection).getD s.engine.direction
            ∧ t.drive = { s.drive with
                commandedCopy := 0, direction := t.engine.direction, applied := 0
                stall := if s.drive.direction ≠ t.engine.direction then 0 else s.drive.stall
                extreme := if s.drive.direction ≠ t.engine.direction ∧ s.drive.brake = .released
                  then some s.meas.stroke else s.drive.extreme })
      ∧ (∀ o, s.start.config = some o →
         let st := s.ctrl.state
         let dir := st.motion s.ctrl.jogDirection
         let full := if st = .lifting then o.vRaise else if st = .lowering then o.vLower
           else if st = .seating ∨ st = .unseating ∨ st = .jog then o.seatSpeed else 0
         let c := if o.policy = .derate ∧ s.start.supplyLow = true then full / 2 else full
         let e := if st = .lowering then (s.tick due).leadOf .down else (s.tick due).leadOf .up
         let d := if st = .lifting ∨ st = .lowering
             then (if o.window ≤ e then 0 else max o.dMin (c * (o.window - e) / o.window))
           else if st = .seating ∨ st = .jog ∨ (st = .unseating ∧ s.command = .lower) then c else 0
         let clamped := (dir = some .up ∧ s.meas.upperEnd = true) ∨ (dir = some .down ∧ s.meas.lowerEnd = true)
           ∨ (st = .lowering ∧ ∃ x ∈ s.ctrl.contact, s.meas.stroke ≤ x)
           ∨ (st = .jog ∧ dir = some .up ∧ o.contactThreshold ≤ s.meas.load)
         let demand := if clamped then 0 else d
         let turns := dir.isSome = true ∧ dir ≠ some s.engine.direction
         let previous := if turns then 0 else s.engine.commanded
         t.engine.lastCeiling = c
           ∧ t.engine.direction = dir.getD s.engine.direction
           ∧ t.engine.commanded
             = min (if previous < demand then min demand (previous + o.ramp) else demand) c
           ∧ (s.drive.brake = .released → s.drive.direction = t.engine.direction →
               t.drive.applied = t.engine.commanded)
           ∧ (s.drive.brake ≠ .released → t.drive.applied = 0)
           ∧ (s.drive.direction ≠ t.engine.direction → t.drive.applied = 0)
           ∧ t.drive = { s.drive with
               commandedCopy := t.engine.commanded, direction := t.engine.direction, applied := t.drive.applied
               stall := if s.drive.direction ≠ t.engine.direction ∨ t.drive.applied < o.dMin then 0 else s.drive.stall
               extreme := if s.drive.direction ≠ t.engine.direction ∧ s.drive.brake = .released
                 then some s.meas.stroke else s.drive.extreme })

/-- The spread checks at a control-timer expiry, in HOLDING, LIFTING, LOWERING and PARKED alone: SPREAD_SET is raised when two
lifts of the set lie more than S_set apart and SPREAD_BODY when two of the own body lie more than S_body apart, as one
event (R100 to R102). -/
def Obligations.SpreadBeyondALimitHalts : Prop :=
  ∀ (s : State) (due : Time) (o : Options), s.start.resetHeld = false → s.engine.controlTimer = some due →
    s.start.config = some o → HaltLaw s →
    ∃ t, exec .controlTimerExpiry s = .next t
      ∧ t.start = s.start ∧ t.peers = s.peers ∧ t.request = s.request ∧ t.meas.stroke = s.meas.stroke
      ∧ (let own := s.ownLift.getD 0
         let lifts := own :: (s.tick due).predictions.map Prod.snd
         let body := own :: ((s.tick due).predictions.filter (fun p => p.1 == o.bodyIndex)).map Prod.snd
         let setBeyond := s.ctrl.state.isSeated = true ∧ ∃ x ∈ lifts, ∃ y ∈ lifts, y + o.spreadSet < x
         let bodyBeyond := s.ctrl.state.isSeated = true ∧ ∃ x ∈ body, ∃ y ∈ body, y + o.spreadBody < x
         (setBeyond ∧ bodyBeyond → EntersHalted s t [.spreadSet, .spreadBody] .spreadSet s.ownNumber)
           ∧ (setBeyond ∧ ¬bodyBeyond → EntersHalted s t [.spreadSet] .spreadSet s.ownNumber)
           ∧ (¬setBeyond ∧ bodyBeyond → EntersHalted s t [.spreadBody] .spreadBody s.ownNumber)
           ∧ (¬setBeyond ∧ ¬bodyBeyond →
               t.ctrl = s.ctrl ∧ t.halt = s.halt ∧ t.bus = s.bus ∧ t.meas = s.meas))

/-- RELEASE_TIMER_EXPIRY and SET_DELAY_EXPIRY: the brake becomes RELEASED, the commanded output is applied and the extreme
taken; or the brake becomes SET, the creep reference is taken and the extreme is gone (R147, R148).
The clock `now` is the model's (log entry 2). -/
def Obligations.BrakeTimersReleaseAndSet : Prop :=
  ∀ (s : State) (due : Time), s.start.resetHeld = false →
    (s.drive.releaseTimer = some due →
      exec .releaseTimerExpiry s = .next { s with now := max s.now due, drive := { s.drive with
        brake := .released, releaseTimer := none, applied := s.drive.commandedCopy, extreme := some s.meas.stroke } })
    ∧ (s.drive.setDelay = some due →
      exec .setDelayExpiry s = .next { s with now := max s.now due, drive := { s.drive with
        brake := .set, releaseTimer := none, setDelay := none, applied := 0, stall := 0, extreme := none,
        creepReference := s.meas.stroke } })

/-! ## The pendant -/

/-- KEY_PRESS of RAISE or LOWER in GROUP mode. With the other key released and the flag set a request sequence begins: its first
request is handed to the transmit queue and fills the own slot, and the station comes to rest under the command it forms.
With the flag clear or the other key pressed none begins: nothing is sent and no slot is filled; a parked station wakes and a
running park timer restarts. Either way a sequence of the other key ends. In START and CONFIG_FAULT the key alone changes. The
change of state is handed on to the engine, the brake and the counters (R126, R128, R132 to R134, R145, R146, R148, R157, R165 to
R167). In JOG the mode is LOCAL, as the request law says.
The model's own in it: a filtered change is taken no earlier than its filter's time after the moment from which the filter
times its input (log entry 11); the transitions that follow read their conditions as levels (log entry 7); a prompt report
asked for while a report is under attempt is held with the restart of its timer (log entry 16); what is taken from an absent
configuration is 0 (log entry 18).
The clock `now` is the model's (log entry 2). -/
def Obligations.GroupPressBeginsARequestSequence : Prop :=
  ∀ (s : State) (m : Time) (key : Key) (k other : RequestKind), s.start.resetHeld = false →
    (key = .raise ∧ k = .raise ∧ other = .lower ∨ key = .lower ∧ k = .lower ∧ other = .raise) →
    (s.request.key key).pressed = false → (s.request.key key).blocked = false → s.request.pendantPresent = true →
    s.request.mode = .groupMode → RequestLaw s →
    ∃ t, exec (.keyPress m key) s = .next t
      ∧ t.now = max s.now (max m ((s.request.key key).filterFrom.getD 0 + 20000)) ∧ t.start = s.start
      ∧ t.bus.clear = s.bus.clear
      ∧ OnlyMotionFollows s t
      ∧ (let pressed := s.request.setKey { s.request.key key with pressed := true, filterFrom := some t.now } key
         let begins := s.ctrl.assembled = true ∧ (s.request.key (otherKey key)).pressed = false
         let kept := { pressed with
           sequence := if s.request.sequence.map Sequence.kind = some other then none else s.request.sequence }
         let asked := { pressed with
           sequence := some { kind := k, repeatAt := t.now + 20000 }
           slots := Table.put s.request.slots s.ownNumber (some { kind := k, stamp := t.now }) }
         (s.ctrl.state.isOperating = false → t = { s with now := t.now, request := pressed })
           ∧ (s.ctrl.state.isOperating = true → begins → 1 ≤ s.ownNumber → s.ownNumber ≤ 24 →
               SettlesFrom { s with request := asked } t
                 ∧ (s.assemblyHolds = true → t.request = asked ∧ t.ctrl.assembled = true)
                 ∧ (s.assemblyHolds = true → s.ctrl.state ≠ .assembling → t.peers = s.peers)
                 ∧ (s.bus.underAttempt .motion = false → t.bus.motion = some { kind := k, entered := t.now, attempts := 0 }
                     ∧ t.bus.pendingMotion = s.bus.pendingMotion)
                 ∧ (s.bus.underAttempt .motion = true →
                     t.bus.motion = s.bus.motion ∧ t.bus.pendingMotion = some k)
                 ∧ (s.assemblyHolds = true → s.ctrl.state = .ready → t.command = .raise → t.ctrl.state = .seating)
                 ∧ (s.ctrl.state = .halted → t.ctrl.state = .halted))
           ∧ (s.ctrl.state.isOperating = true → ¬begins →
               t.bus.motion = s.bus.motion ∧ t.bus.pendingMotion = s.bus.pendingMotion
                 ∧ (s.ctrl.state = .parked →
                     SettlesFrom { s with request := kept, ctrl := { s.ctrl with state := .holding, parkTimer := none } } t)
                 ∧ (s.ctrl.state = .holding → t = { s with
                     now := t.now, request := kept
                     ctrl := { s.ctrl with parkTimer := s.ctrl.parkTimer.map (fun _ => t.now + s.start.parkTime) } })
                 ∧ (s.ctrl.state ≠ .parked → s.ctrl.state ≠ .holding → t = { s with now := t.now, request := kept })))

/-- KEY_PRESS of RAISE or LOWER in LOCAL mode: a jog from ASSEMBLING and READY with the other key released, a refusal with the
REFUSED lamp for 500 ms in the loaded states and HALTED, nothing in START and CONFIG_FAULT (R18, R29, R30, R128, R142);
in JOG a press of the holding key continues the jog, a press of the other key ends it (R20, R29); a parked station wakes and
then refuses (R126, R165 to R167); a change of state is handed on (R145, R146, R148).
The model's own in it: a filtered change is taken no earlier than its filter's time after the moment from which the filter
times its input (log entry 11); the transitions that follow read their conditions as levels (log entry 7); outside JOG the jog
direction keeps its last value (log entry 10); a prompt report asked for while a report is under attempt is held with the
restart of its timer (log entry 16); what is taken from an absent configuration is 0 (log entry 18).
The clock `now` is the model's (log entry 2). -/
def Obligations.LocalPressJogsOrIsRefused : Prop :=
  ∀ (s : State) (m : Time) (key : Key), s.start.resetHeld = false → key = .raise ∨ key = .lower →
    (s.request.key key).pressed = false → (s.request.key key).blocked = false → s.request.pendantPresent = true →
    s.request.mode = .localMode → s.request.sequence = none →
    ∃ t, exec (.keyPress m key) s = .next t
      ∧ t.now = max s.now (max m ((s.request.key key).filterFrom.getD 0 + 20000)) ∧ t.start = s.start
      ∧ t.peers.clashHold = s.peers.clashHold
      ∧ t.meas.stroke = s.meas.stroke
      ∧ (let pressed := s.request.setKey { s.request.key key with pressed := true, filterFrom := some t.now } key
         let other := (s.request.key (otherKey key)).pressed
         (s.ctrl.state.isOperating = false → t = { s with now := t.now, request := pressed })
           ∧ (s.ctrl.state = .assembling ∨ s.ctrl.state = .ready → other = true →
               t = { s with now := t.now, request := pressed })
           ∧ (s.ctrl.state = .assembling ∨ s.ctrl.state = .ready → other = false →
               s.ctrl.assembled = false ∨ s.assemblyHolds = true →
               t.ctrl.state = .jog ∧ t.ctrl.jogDirection = (if key = .raise then .up else .down)
                 ∧ t.ctrl.assembled = s.ctrl.assembled ∧ t.ctrl.contact = s.ctrl.contact ∧ t.request = pressed
                 ∧ t.bus = s.bus ∧ t.peers = s.peers ∧ t.engine.direction = t.ctrl.jogDirection
                 ∧ OnlyMotionFollows s t
                 ∧ (s.drive.brake = .set → t.drive.brake = .releasing
                     ∧ t.drive.releaseTimer = some (t.now + s.start.releaseTime)))
           ∧ (s.ctrl.state = .jog → key = holdingKey s.ctrl.jogDirection →
               t = { s with now := t.now, request := pressed })
           ∧ (s.ctrl.state = .jog → key ≠ holdingKey s.ctrl.jogDirection →
               LeavesJog { s with request := pressed } t ∧ OnlyMotionFollows s t ∧ t.bus = s.bus)
           ∧ (s.ctrl.state.refusesJog = true → s.ctrl.state ≠ .holding →
               t = { s with now := t.now, request := { pressed with refusedLamp := some (t.now + 500000) } })
           ∧ (s.ctrl.state = .holding →
               t = { s with now := t.now, request := { pressed with refusedLamp := some (t.now + 500000) }
                            ctrl := { s.ctrl with parkTimer := s.ctrl.parkTimer.map (fun _ => t.now + s.start.parkTime) } })
           ∧ (s.ctrl.state = .parked → OnlyMotionFollows s t
               ∧ SettlesFrom { s with request := { pressed with refusedLamp := some (t.now + 500000) }
                                      ctrl := { s.ctrl with state := .holding, parkTimer := none } } t)
           ∧ (s.ctrl.state = .parked → s.command = .none →
               t.ctrl.state = .holding ∧ t.request = { pressed with refusedLamp := some (t.now + 500000) }
                 ∧ t.ctrl.contact = s.ctrl.contact ∧ t.ctrl.assembled = s.ctrl.assembled ∧ t.peers = s.peers
                 ∧ t.ctrl.parkTimer = some (t.now + s.start.parkTime) ∧ t.drive.brake = s.drive.brake
                 ∧ OnlyMotionFollows s t))

/-- KEY_PRESS of RESET: a clear token enters an empty clear place; in HALTED it is a clear attempt, which keeps the level causes
whose condition is present, and fails with the first of them or succeeds with the grace and returns by the contact record and
the flag; in PARKED it wakes the station, and in HOLDING it restarts a running park timer; in any other state the CLEAR does
nothing, and in START and CONFIG_FAULT the key alone changes (R118 to R122, R126, R128, R135, R157, R165 to R167).
The model's own in it: a filtered change is taken no earlier than its filter's time after the moment from which the filter
times its input (log entry 11); the transitions that follow read their conditions as levels (log entry 7); a prompt report
asked for while a report is under attempt is held with the restart of its timer (log entry 16); what is taken from an absent
configuration is 0 (log entry 18).
The clock `now` is the model's (log entry 2). -/
def Obligations.ResetPressClearsAndAsksTheGroup : Prop :=
  ∀ (s : State) (m : Time), s.start.resetHeld = false → s.request.resetKey.pressed = false →
    s.request.resetKey.blocked = false → s.request.pendantPresent = true →
    ∃ t, exec (.keyPress m .reset) s = .next t
      ∧ t.now = max s.now (max m (s.request.resetKey.filterFrom.getD 0 + 20000)) ∧ t.start = s.start
      ∧ t.meas.stroke = s.meas.stroke
      ∧ (let pressed := { s.request with resetKey := { pressed := true, blocked := false, filterFrom := some t.now } }
         (s.ctrl.state.isOperating = false → t = { s with now := t.now, request := pressed })
           ∧ (s.ctrl.state.isOperating = true →
               t.request.resetKey = pressed.resetKey
                 ∧ t.request.refusedLamp = s.request.refusedLamp
                 ∧ (s.ctrl.state ≠ .parked → t.bus = s.bus.requestClear t.now)
                 ∧ (s.bus.clear = none → t.bus.clear = some { entered := t.now, attempts := 0 })
                 ∧ (∀ x ∈ s.bus.clear, t.bus.clear = some x)
                 ∧ t.bus.motion = s.bus.motion ∧ t.bus.attempt = s.bus.attempt)
           ∧ (s.ctrl.state.isOperating = true → s.ctrl.state ≠ .halted → s.ctrl.state ≠ .holding →
               s.ctrl.state ≠ .parked → t = { s with now := t.now, request := pressed, bus := t.bus })
           ∧ (s.ctrl.state = .holding → t = { s with
               now := t.now, request := pressed, bus := t.bus
               ctrl := { s.ctrl with parkTimer := s.ctrl.parkTimer.map (fun _ => t.now + s.start.parkTime) } })
           ∧ (s.ctrl.state = .parked → OnlyMotionFollows s t
               ∧ SettlesFrom { s with request := pressed, ctrl := { s.ctrl with state := .holding, parkTimer := none } } t)
           ∧ (s.ctrl.state = .halted →
               (let kept := s.halt.causes.filter s.conditionPresent
                t.halt.causes = kept
                  ∧ (∀ c ∈ kept.head?, t.ctrl = s.ctrl ∧ t.halt.grace = s.halt.grace ∧ t.drive = s.drive
                      ∧ t.peers = s.peers ∧ t.request = pressed
                      ∧ t.halt.first = some { cause := c, origin := s.ownNumber })
                  ∧ (kept = [] → t.halt.first = none ∧ t.halt.grace = some (t.now + 60000)
                      ∧ t.halt.faultLamp = false ∧ t.ctrl.state ≠ .halted ∧ t.ctrl.contact = s.ctrl.contact
                      ∧ HandsOn s t
                      ∧ ReturnsFromHalt { s with request := pressed, ctrl := { s.ctrl with parkTimer := none } } t))))

/-- KEY_RELEASE and MODE_CHANGE. A release of a pressed key ends the sequence of its kind and the jog it holds; of a key that is
not pressed it is none. A change to LOCAL ends a sequence, a change to GROUP a jog. In START and CONFIG_FAULT the filtered
levels alone change. A station that leaves JOG goes to READY with the flag set and the assembly standing, else to ASSEMBLING,
and on to READY where the group is assembled. A key or the mode switch changes no earlier than 20 ms after its last change (R16,
R17, R20, R126, R128, R133).
The model's own in it: a release of a key that is not pressed and a change to the present mode are no events and change
nothing (log entry 6); a filtered change is taken no earlier than its filter's time after the moment from which the filter
times its input (log entry 11); a RAISE that stands carries a station that leaves JOG on from READY to SEATING, since the
transitions that follow read their conditions as levels (log entry 7); outside JOG the jog direction keeps its last value (log
entry 10); what is taken from an absent configuration is 0 (log entry 18).
The clock `now` is the model's (log entry 2). -/
def Obligations.ReleaseAndModeEndJogAndSequence : Prop :=
  ∀ (s : State) (m : Time) (key : Key) (mode : Mode), s.start.resetHeld = false →
    (let keyFrom := (s.request.key key).filterFrom.getD 0
    ((s.request.key key).pressed = false → exec (.keyRelease m key) s = .next s)
    ∧ (mode = s.request.mode → exec (.modeChange m mode) s = .next s)
    ∧ ((s.request.key key).pressed = true → ∃ t, exec (.keyRelease m key) s = .next t
        ∧ t.now = max s.now (max m (keyFrom + 20000))
        ∧ (let up := s.request.setKey { s.request.key key with pressed := false, filterFrom := some t.now } key
           let ended := s.ctrl.state.isOperating && decide ((s.request.sequence.map Sequence.kind).isSome = true
             ∧ s.request.sequence.map Sequence.kind = keyKind key)
           let rest := { up with sequence := if ended then none else s.request.sequence }
           (¬(s.ctrl.state = .jog ∧ key = holdingKey s.ctrl.jogDirection) →
               t = { s with now := t.now, request := rest })
             ∧ (s.ctrl.state = .jog → key = holdingKey s.ctrl.jogDirection →
                 LeavesJog { s with request := rest } t ∧ OnlyMotionFollows s t ∧ t.bus = s.bus
                   ∧ (s.ctrl.assembled = true → s.assemblyHolds = true → s.command ≠ .raise →
                       t.ctrl.state = .ready ∧ t.request = rest ∧ t.peers = s.peers ∧ t.engine.commanded = 0))))
    ∧ (mode ≠ s.request.mode → ∃ t, exec (.modeChange m mode) s = .next t
        ∧ t.now = max s.now (max m (s.request.modeFrom.getD 0 + 20000))
        ∧ t.request.mode = mode
        ∧ (s.ctrl.state.isOperating = false ∨ mode = .groupMode ∧ s.ctrl.state ≠ .jog →
            t = { s with now := t.now, request := { s.request with mode := mode, modeFrom := some t.now } })
        ∧ (s.ctrl.state.isOperating = true → mode = .localMode →
            t = { s with now := t.now, request := { s.request with
              mode := mode, modeFrom := some t.now, sequence := none } })
        ∧ (mode = .groupMode → s.ctrl.state = .jog →
            LeavesJog { s with request := { s.request with mode := mode, modeFrom := some t.now } } t
              ∧ OnlyMotionFollows s t ∧ t.bus = s.bus
              ∧ (s.ctrl.assembled = true → s.assemblyHolds = true → s.command ≠ .raise →
                  t.ctrl.state = .ready ∧ t.peers = s.peers ∧ t.engine.commanded = 0
                    ∧ t.request = { s.request with mode := mode, modeFrom := some t.now }))))

/-- PENDANT_PRESENT_CHANGE, KEY_UNBLOCK and REFUSED_PULSE_END: a pendant that leaves releases every key and keeps the blocks,
ends the sequence of a pressed key and the jog, which its pressed key holds (the request law); one that comes blocks every
key; a blocked key becomes free no earlier than 20 ms after its block; the pendant-present line changes no earlier than 20 ms
after its last change; the REFUSED lamp goes dark at its pulse's end (R20, R126, R127, R133, R142).
The model's own in it: the freeing of a key that is not blocked is no event (log entry 6); a filtered change is taken no
earlier than its filter's time after the moment from which the filter times its input (log entry 11); a blocked key's 20 ms
count from the block (log entry 25); the transitions that follow read their conditions as levels (log entry 7); outside JOG
the jog direction keeps its last value (log entry 10); what is taken from an absent configuration is 0 (log entry 18).
The clock `now` is the model's (log entry 2). -/
def Obligations.PendantPresenceBlocksAndReleasesKeys : Prop :=
  ∀ (s : State) (m : Time) (key : Key) (due : Time), s.start.resetHeld = false →
    let up := fun (now : Time) (k : KeyInput) => if k.pressed then { k with pressed := false, filterFrom := some now } else k
    (s.request.pendantPresent = true → ∃ t, exec (.pendantPresentChange m false) s = .next t
        ∧ t.now = max s.now (max m (s.request.pendantFrom.getD 0 + 20000))
        ∧ t.request.pendantPresent = false ∧ OnlyMotionFollows s t
        ∧ (∀ k ∈ [Key.raise, .lower, .reset],
            t.request.key k = up t.now (s.request.key k))
        ∧ ((∀ k ∈ [Key.raise, .lower, .reset], (s.request.key k).pressed = false) →
            t = { s with now := t.now, request := { s.request with pendantPresent := false, pendantFrom := some t.now } })
        ∧ (let ends := s.request.sequence.any (fun q => (s.request.key (if q.kind = .raise then .raise else .lower)).pressed)
             && s.ctrl.state.isOperating
           let gone := { s.request with
             pendantPresent := false, pendantFrom := some t.now
             raiseKey := up t.now s.request.raiseKey
             lowerKey := up t.now s.request.lowerKey
             resetKey := up t.now s.request.resetKey
             sequence := if ends then none else s.request.sequence }
           (s.ctrl.state ≠ .jog → t = { s with now := t.now, request := gone })
             ∧ (s.ctrl.state = .jog → (s.request.key (holdingKey s.ctrl.jogDirection)).pressed = true →
                 LeavesJog { s with request := gone } t ∧ t.bus = s.bus)))
    ∧ (s.request.pendantPresent = false → ∃ t, exec (.pendantPresentChange m true) s = .next t
        ∧ t.now = max s.now (max m (s.request.pendantFrom.getD 0 + 20000))
        ∧ t = { s with now := t.now, request := { s.request with
            pendantPresent := true, pendantFrom := some t.now
            raiseKey := { s.request.raiseKey with blocked := true, filterFrom := some t.now }
            lowerKey := { s.request.lowerKey with blocked := true, filterFrom := some t.now }
            resetKey := { s.request.resetKey with blocked := true, filterFrom := some t.now } } })
    ∧ ((s.request.key key).blocked = false → exec (.keyUnblock m key) s = .next s)
    ∧ ((s.request.key key).blocked = true → ∃ t, exec (.keyUnblock m key) s = .next t
        ∧ t.now = max s.now (max m ((s.request.key key).filterFrom.getD 0 + 20000))
        ∧ t = { s with
            now := t.now
            request := s.request.setKey { s.request.key key with blocked := false, filterFrom := some t.now } key })
    ∧ (s.request.refusedLamp = some due →
        exec .refusedPulseEnd s = .next { s with now := max s.now due, request := { s.request with refusedLamp := none } })

/-- REPEAT_TIMER_EXPIRY: one more request of the sequence's kind is queued and fills the own slot, the timer restarts at its own
pace, and the station comes to rest under the command the slot forms (R23 to R26, R29, R133, R134).
The model's own in it: the transitions that follow read their conditions as levels (log entry 7); a prompt report asked for
while a report is under attempt is held with the restart of its timer (log entry 16); what is taken from an absent
configuration is 0 (log entry 18).
The clock `now` is the model's (log entry 2). -/
def Obligations.RepeatExpiryMakesAnotherRequest : Prop :=
  ∀ (s : State) (q : Sequence), s.start.resetHeld = false → s.request.sequence = some q →
    ∃ t, exec .repeatTimerExpiry s = .next t ∧ t.now = max s.now q.repeatAt ∧ t.start = s.start
      ∧ (let asked := { s.request with
           sequence := some { q with repeatAt := q.repeatAt + 20000 }
           slots := Table.put s.request.slots s.ownNumber (some { kind := q.kind, stamp := t.now }) }
         SettlesFrom { s with request := asked } t
           ∧ (s.ctrl.assembled = true → s.assemblyHolds = true → t.request = asked
               ∧ (s.ctrl.state ≠ .assembling → t.peers = s.peers)))
      ∧ (s.bus.underAttempt .motion = false → t.bus.motion = some { kind := q.kind, entered := t.now, attempts := 0 })
      ∧ (s.bus.underAttempt .motion = true → t.bus.motion = s.bus.motion ∧ t.bus.pendingMotion = some q.kind)
      ∧ t.bus.clear = s.bus.clear ∧ OnlyMotionFollows s t

/-- ESTOP_CHANNEL_CHANGE and DISCREPANCY_LATCH_SET: an onset of the e-stop condition raises ESTOP; every other change of a channel
raises nothing; a channel opens no earlier than 2 ms and closes no earlier than 20 ms after its last change; the discrepancy timer
runs while the channels differ, 50 ms of which set the latch, and both channels OPEN clear it (R129 to R131).
The model's own in it: a filtered change is taken no earlier than its filter's time after the moment from which the filter
times its input (log entry 11).
The clock `now` is the model's (log entry 2). -/
def Obligations.EstopChannelsHaltAndLatch : Prop :=
  ∀ (s : State) (m since : Time) (c : Channel) (isOpen : Bool), s.start.resetHeld = false →
    s.request.channelOpen c = !isOpen →
    (∃ t, exec (.estopChannelChange m c isOpen) s = .next t
        ∧ t.now = max s.now (max m ((s.request.channelFrom c).getD 0 + (if isOpen then 2000 else 20000))) ∧ t.start = s.start
        ∧ t.peers = s.peers ∧ t.meas.stroke = s.meas.stroke
        ∧ (let a := if c = .a then isOpen else s.request.estopAOpen
           let b := if c = .b then isOpen else s.request.estopBOpen
           t.request = { s.request with
               estopAOpen := a, estopBOpen := b
               estopAFrom := if c = .a then some t.now else s.request.estopAFrom
               estopBFrom := if c = .b then some t.now else s.request.estopBFrom
               discrepancySince := if a = b then none else some (s.request.discrepancySince.getD t.now)
               discrepancyLatch := s.request.discrepancyLatch && !(a && b) }
             ∧ (s.request.estopCondition = false → TakesCauses s t [.estop] .estop s.ownNumber)
             ∧ (s.request.estopCondition = true → t = { s with now := t.now, request := t.request })))
    ∧ (s.request.discrepancySince = some since →
        exec .discrepancyLatchSet s = .next { s with now := max s.now (since + 50000)
                                                     request := { s.request with discrepancyLatch := true } })

/-! ## Reports and the peer table -/

/-- The frames of the part decode to what was encoded: the characters of a report or request frame of a station 1..24 pass the
receiver's checks and give back every field (R172, R196 to R198, R200). On the line a character is read back from its ten bit
times, a stop bit at the drive level is a framing error, and the two frames occupy 200 and 70 bit times (R170). -/
def Obligations.FramesDecodeToTheirFields : Prop :=
  (∀ r : ReportFields, 1 ≤ r.station.toNat → r.station.toNat ≤ 24 →
      r.chars.length = 20 ∧ receive r.chars = some (.report r) ∧ (frameLevels r.chars).length = 200)
    ∧ (∀ q : RequestFields, 1 ≤ q.station.toNat → q.station.toNat ≤ 24 →
      q.chars.length = 7 ∧ receive q.chars = some (.request q) ∧ (frameLevels q.chars).length = 70)
    ∧ (∀ (c : Byte) (levels : BitVec 9),
      characterLevels c = .drive :: (List.range 9).map (fun k => Level.ofBit ((1#1 ++ c).getLsbD k))
        ∧ (readCharacter levels = some c ↔ levels = 1#1 ++ c))

/-- An entry is eligible exactly when it is FRESH, not faulty, not contested, carries the own digest and reports ASSEMBLING,
READY or JOG; the station never counts itself (R9). -/
def Obligations.EligibleExactlyByTheFiveConditions : Prop :=
  (∀ (e : Entry) (own : Word16),
    e.eligible (some own) = true ↔
      e.status = .fresh ∧ e.faulty = false ∧ e.contested = false
        ∧ ∃ c, e.content = some c ∧ c.digest = own ∧ (c.state = .assembling ∨ c.state = .ready ∨ c.state = .jog))
    ∧ (∀ (s : State) (e : Entry), OwnEntryLaw s → Table.get s.peers.entries s.ownNumber = some e →
        e.eligible s.start.digest = false)

/-- REPORT_FRAME, accepted: a report of another station number that the receiver takes, well formed, no duplicate, at no faulty
entry and, unless it passes on the prompt allowance, not early, updates its entry: content, status, stamps, deadline, early
mark and allowance; the contested and faulty marks are kept, and every other entry stays as it is up to its member mark
(R63 to R66, R69). The causes are exactly those of a restart, a mismatch and a halted member, raised as one event, named
after the highest of them, PEER_HALTED alone by the report's origin (R69 to R72, R109). Where there is none, the station
comes to rest on the new entry: an assembly is completed or lost, and a restart in READY or JOG ends it (R5, R11, R16, R17,
R19).
The model's own in it: an event that raises a cause and meets a transition takes the cause first (R28, log entry 9); the
transitions that follow read their conditions as levels (log entry 7); the measure of idle before a frame (log entry 12); what
is taken from an absent configuration is 0 (log entry 18).
The clock `now` is the model's (log entry 2). -/
def Obligations.AcceptedReportUpdatesItsEntry : Prop :=
  ∀ (s : State) (m : Time) (r : ReportFields) (c : Content) (e : Entry), s.start.resetHeld = false →
    s.ctrl.state.isOperating = true → 1 ≤ r.station.toNat → r.station.toNat ≤ 24 → r.content = some c →
    s.bus.receiver = .takingFrame ∨ s.bus.idleFrom + 212 ≤ max s.now m →
    r.station.toNat ≠ s.ownNumber → Table.get s.peers.entries r.station.toNat = some e →
    (e.status = .fresh → e.content.map Content.unitNumber = some c.unitNumber ∧ e.faulty = false) →
    (let newUnit : Bool := e.status == .empty
       || (e.status == .stale && decide (e.content.map Content.unitNumber ≠ some c.unitNumber))
     let allowed : Bool := r.prompt && (newUnit || e.allowance == .available)
     let early : Bool := !newUnit && (match e.lastScheduled, e.content with
       | some last, some old => decide (max s.now m < last + (if old.period = .fast then 5000 else 125000))
       | _, _ => false)
     allowed = true ∨ early = false →
     ∃ t, exec (.reportFrame m r.chars) s = .next t ∧ t.now = max s.now m ∧ t.start = s.start
       ∧ t.meas.stroke = s.meas.stroke ∧ t.ctrl.contact = s.ctrl.contact
       ∧ t.bus.receiver = .waitingForIdle ∧ t.bus.idleFrom = max s.bus.idleFrom t.now
       ∧ (∀ n ∈ List.range 25, n ≠ r.station.toNat →
           (Table.get t.peers.entries n).map Entry.unmark = (Table.get s.peers.entries n).map Entry.unmark)
       ∧ (let e' : Entry :=
            { status := .fresh, content := some c, lastArrival := some t.now
              lastScheduled := if r.prompt then (if newUnit then none else e.lastScheduled) else some t.now
              staleDeadline := some (t.now + (if c.period = .fast then 60000 else 1500000)), member := e.member
              early := if r.prompt then (!newUnit && e.early) else false
              allowance := if r.prompt then .spent else .available, faulty := e.faulty
              contested := e.contested, contestDeadline := e.contestDeadline }
          let taken : State := s.putEntry r.station.toNat e'
          let restart : Bool := e.member && (newUnit || (c.fresh && e.content.any (fun old => !old.fresh)))
          let mismatch : Bool := e.member && decide (s.start.digest ≠ some c.digest)
          let halted : Bool := e.member && c.state == .halted && s.ctrl.assembled && s.halt.grace.isNone
          let causes : List Cause :=
            (if restart && s.ctrl.state.raisesPeerCauses then [.peerRestart] else [])
              ++ (if mismatch && s.ctrl.state.raisesPeerCauses then [.configMismatch] else [])
              ++ (if halted then [.peerHalted] else [])
          (Table.get t.peers.entries r.station.toNat).map Entry.unmark = some e'.unmark
            ∧ (∀ first ∈ causes.head?,
                TakesCauses s t causes first (if first = .peerHalted then c.origin else s.ownNumber)
                  ∧ t.peers = taken.peers ∧ t.request = s.request)
            ∧ (causes = [] → OnlyMotionFollows s t
                ∧ (restart = false ∨ s.ctrl.state ≠ .ready ∧ s.ctrl.state ≠ .jog → SettlesFrom taken t)
                ∧ (restart = true → s.ctrl.state = .ready → EntersAssembling taken t)
                ∧ (restart = true → s.ctrl.state = .jog → LosesFlagInJog s t)
                ∧ (mismatch = true → restart = false → s.ctrl.state = .ready → EntersAssembling taken t)
                ∧ (mismatch = true → s.ctrl.assembled = true → s.ctrl.state = .jog → LosesFlagInJog s t)
                ∧ (s.ctrl.state = .assembling → taken.groupAssembled = true → s.command ≠ .raise →
                    t.ctrl.state = .ready ∧ t.ctrl.assembled = true ∧ t.ctrl.fresh = false
                      ∧ (∀ x ∈ t.peers.entries.toList, x.member = x.eligible s.start.digest)
                      ∧ ∀ o ∈ s.start.config, t.peers.memberCount = o.n - 1)
                ∧ (s.ctrl.state = .assembling → taken.groupAssembled = false →
                    t.ctrl.state = .assembling ∧ t.ctrl.assembled = s.ctrl.assembled ∧ t.ctrl.fresh = s.ctrl.fresh))))

/-- Frames without effect beyond their arrival on the line: characters that belong to no frame, because no 12 bit times of
idle came before them (log entry 12), characters that fail the receiver's checks, any frame in START and CONFIG_FAULT, a
malformed report, the echo of an own frame, a report at a faulty entry, a request frame that fails a condition of R136, and
one of another code (R52, R57, R58, R64, R136, R137, R171, R172; log entry 15).
The clock `now` is the model's (log entry 2). -/
def Obligations.DiscardedFramesChangeNothingElse : Prop :=
  ∀ (s : State) (m : Time), s.start.resetHeld = false →
    (let quiet : State := { s with now := max s.now m, bus := { s.bus with
        receiver := .waitingForIdle, idleFrom := max s.bus.idleFrom (max s.now m) } }
     (∀ chars, receive chars = none ∨ s.ctrl.state.isOperating = false
          ∨ s.bus.receiver = .waitingForIdle ∧ max s.now m < s.bus.idleFrom + 12 + 10 * chars.length →
        exec (.reportFrame m chars) s = .next quiet ∧ exec (.raiseFrame m chars) s = .next quiet
          ∧ exec (.lowerFrame m chars) s = .next quiet ∧ exec (.clearFrame m chars) s = .next quiet
          ∧ exec (.requestFrameOtherCode m chars) s = .next quiet)
       ∧ (∀ r : ReportFields, 1 ≤ r.station.toNat → r.station.toNat ≤ 24 →
          (r.content = none
            ∨ (r.station.toNat = s.ownNumber ∧ r.unitNumber.toNat = s.start.unitNumber)
            ∨ (r.station.toNat ≠ s.ownNumber ∧ ∃ e, Table.get s.peers.entries r.station.toNat = some e
                ∧ e.status = .fresh ∧ e.faulty = true
                ∧ e.content.map Content.unitNumber = some r.unitNumber.toNat)) →
          exec (.reportFrame m r.chars) s = .next quiet)
       ∧ (∀ q : RequestFields, 1 ≤ q.station.toNat → q.station.toNat ≤ 24 →
          ((q.station.toNat = s.ownNumber ∧ q.unitNumber.toNat = s.start.unitNumber)
            ∨ (q.station.toNat ≠ s.ownNumber ∧ ∃ e, Table.get s.peers.entries q.station.toNat = some e
                ∧ (s.ctrl.assembled = false ∨ e.member = false ∨ e.faulty = true
                  ∨ e.content.map Content.unitNumber ≠ some q.unitNumber.toNat))) →
          (q.code = 1#8 → exec (.raiseFrame m q.chars) s = .next quiet)
            ∧ (q.code = 2#8 → exec (.lowerFrame m q.chars) s = .next quiet)
            ∧ (q.code = 3#8 → exec (.clearFrame m q.chars) s = .next quiet))
       ∧ (∀ q : RequestFields, 1 ≤ q.station.toNat → q.station.toNat ≤ 24 →
          q.code ≠ 1#8 → q.code ≠ 2#8 → q.code ≠ 3#8 → q.station.toNat ≠ s.ownNumber →
          exec (.requestFrameOtherCode m q.chars) s = .next quiet))

/-- A frame of either kind with the own number and another unit number holds the number-clash indication 1500 ms from its
arrival, and a report that differs in unit number from a FRESH entry makes that entry contested for 1500 ms, its content and
deadlines kept; in the loaded states and HALTED DUPLICATE is raised for the clash and for a member; elsewhere the assembly
does not hold: READY ends it, and JOG loses its flag and stays JOG (R59 to R62).
The model's own in it: an event that raises a cause and meets a transition takes the cause first (R28, log entry 9); the
transitions that follow read their conditions as levels (log entry 7); the measure of idle before a frame (log entry 12); what
is taken from an absent configuration is 0 (log entry 18).
The clock `now` is the model's (log entry 2). -/
def Obligations.ClashAndDuplicateAreHeld1500Ms : Prop :=
  ∀ (s : State) (m : Time) (r : ReportFields) (c : Content) (q : RequestFields), s.start.resetHeld = false →
    s.ctrl.state.isOperating = true →
    (r.content = some c → 1 ≤ s.ownNumber → s.ownNumber ≤ 24 →
      s.bus.receiver = .takingFrame ∨ s.bus.idleFrom + 212 ≤ max s.now m →
      r.station.toNat = s.ownNumber → c.unitNumber ≠ s.start.unitNumber →
      ∃ t, exec (.reportFrame m r.chars) s = .next t ∧ t.now = max s.now m ∧ HoldsClash s t)
    ∧ (1 ≤ s.ownNumber → s.ownNumber ≤ 24 →
      s.bus.receiver = .takingFrame ∨ s.bus.idleFrom + 82 ≤ max s.now m →
      q.station.toNat = s.ownNumber → q.unitNumber.toNat ≠ s.start.unitNumber →
      ∃ t, exec (if q.code = 1#8 then .raiseFrame m q.chars else if q.code = 2#8 then .lowerFrame m q.chars
          else if q.code = 3#8 then .clearFrame m q.chars else .requestFrameOtherCode m q.chars) s = .next t
        ∧ t.now = max s.now m ∧ HoldsClash s t)
    ∧ (∀ e, r.content = some c → 1 ≤ r.station.toNat → r.station.toNat ≤ 24 →
      s.bus.receiver = .takingFrame ∨ s.bus.idleFrom + 212 ≤ max s.now m →
      Table.get s.peers.entries r.station.toNat = some e → r.station.toNat ≠ s.ownNumber →
      e.status = .fresh → e.content.map Content.unitNumber ≠ some c.unitNumber →
      ∃ t, exec (.reportFrame m r.chars) s = .next t ∧ t.now = max s.now m
        ∧ t.start = s.start ∧ t.meas.stroke = s.meas.stroke ∧ t.peers.clashHold = s.peers.clashHold
        ∧ (let taken : State := s.putEntry r.station.toNat
             { e with contested := true, contestDeadline := some (t.now + 1500000) }
           (e.member = true → s.ctrl.state.raisesPeerCauses = true →
               TakesCauses s t [.duplicate] .duplicate s.ownNumber ∧ t.peers = taken.peers ∧ t.request = s.request)
             ∧ (e.member = false ∨ s.ctrl.state.raisesPeerCauses = false →
                 OnlyMotionFollows s t ∧ SettlesFrom taken t)
             ∧ (e.member = true → s.ctrl.state = .ready → EntersAssembling taken t)
             ∧ (e.member = true → s.ctrl.assembled = true → s.ctrl.state = .jog → LosesFlagInJog s t)))

/-- An early report is discarded: the first sets the early mark alone, the second makes the entry faulty, which raises BABBLE
for a member in the loaded states and HALTED; for a member in READY and JOG the assembly then does not hold; otherwise it is
a mark (R66 to R68).
The model's own in it: an event that raises a cause and meets a transition takes the cause first (R28, log entry 9); the
transitions that follow read their conditions as levels (log entry 7); the measure of idle before a frame (log entry 12); what
is taken from an absent configuration is 0 (log entry 18).
The clock `now` is the model's (log entry 2). -/
def Obligations.SecondEarlyReportMakesTheEntryFaulty : Prop :=
  ∀ (s : State) (m : Time) (r : ReportFields) (c old : Content) (e : Entry) (last : Time),
    s.start.resetHeld = false → s.ctrl.state.isOperating = true →
    1 ≤ r.station.toNat → r.station.toNat ≤ 24 → r.content = some c → r.station.toNat ≠ s.ownNumber →
    s.bus.receiver = .takingFrame ∨ s.bus.idleFrom + 212 ≤ max s.now m →
    Table.get s.peers.entries r.station.toNat = some e → e.status = .fresh → e.faulty = false →
    e.content = some old → old.unitNumber = c.unitNumber → e.lastScheduled = some last →
    (r.prompt = false ∨ e.allowance = .spent) →
    max s.now m < last + (if old.period = .fast then 5000 else 125000) →
    ∃ t, exec (.reportFrame m r.chars) s = .next t ∧ t.now = max s.now m
      ∧ t.start = s.start ∧ t.meas.stroke = s.meas.stroke ∧ t.peers.clashHold = s.peers.clashHold
      ∧ (let taken : State := s.putEntry r.station.toNat
           (if e.early then { e with faulty := true } else { e with early := true })
         (e.early = true → e.member = true → s.ctrl.state.raisesPeerCauses = true →
             TakesCauses s t [.babble] .babble s.ownNumber ∧ t.peers = taken.peers ∧ t.request = s.request)
           ∧ (e.early = false ∨ e.member = false ∨ s.ctrl.state.raisesPeerCauses = false →
               OnlyMotionFollows s t ∧ SettlesFrom taken t)
           ∧ (e.early = true → e.member = true → s.ctrl.state = .ready → EntersAssembling taken t)
           ∧ (e.early = true → e.member = true → s.ctrl.assembled = true → s.ctrl.state = .jog → LosesFlagInJog s t))

/-! ## Requests and clears from the group -/

/-- The group command follows from the kinds the request table holds, whose they are and how many of a kind not mattering
(R140). -/
def Obligations.GroupCommandFollowsFromTheTable : Prop :=
  ∀ s : State,
    (let has := fun k => ∃ n x, Table.get s.request.slots n = some (some x) ∧ x.kind = k
     (s.command = .none ↔ ¬has .raise ∧ ¬has .lower)
       ∧ (s.command = .raise ↔ has .raise ∧ ¬has .lower)
       ∧ (s.command = .lower ↔ ¬has .raise ∧ has .lower)
       ∧ (s.command = .conflict ↔ has .raise ∧ has .lower))

/-- RAISE_FRAME and LOWER_FRAME, accepted: with the flag set, from a member that is not faulty and holds the frame's unit
number, the frame fills its slot with its kind and the moment of arrival, no other slot and no entry changes (R76, R136,
R138). The station comes to rest under the group command it forms: READY goes to SEATING, SEATING back to READY, HOLDING to
LIFTING, LOWERING or UNSEATING and each of these on as the tables say, and PARKED wakes with a prompt report (R17, R22 to R26,
R29, R140, R165, R166).
The model's own in it: the transitions that follow read their conditions as levels (log entry 7); the measure of idle before a
frame (log entry 12); a prompt report asked for while a report is under attempt is held with the restart of its timer (log
entry 16); what is taken from an absent configuration is 0 (log entry 18).
The clock `now` is the model's (log entry 2). -/
def Obligations.AcceptedRequestFillsItsSlot : Prop :=
  ∀ (s : State) (m : Time) (q : RequestFields) (e : Entry) (k : RequestKind), s.start.resetHeld = false →
    s.ctrl.state.isOperating = true → 1 ≤ q.station.toNat → q.station.toNat ≤ 24 →
    s.bus.receiver = .takingFrame ∨ s.bus.idleFrom + 82 ≤ max s.now m →
    q.station.toNat ≠ s.ownNumber → Table.get s.peers.entries q.station.toNat = some e →
    s.ctrl.assembled = true → e.member = true → e.faulty = false →
    e.content.map Content.unitNumber = some q.unitNumber.toNat →
    (q.code = 1#8 ∧ k = .raise ∨ q.code = 2#8 ∧ k = .lower) →
    ∃ t, exec (if k = .raise then .raiseFrame m q.chars else .lowerFrame m q.chars) s = .next t
      ∧ t.now = max s.now m ∧ t.start = s.start ∧ t.meas.stroke = s.meas.stroke
      ∧ t.bus.receiver = .waitingForIdle ∧ t.bus.idleFrom = max s.bus.idleFrom t.now
      ∧ OnlyMotionFollows s t ∧ t.bus.motion = s.bus.motion ∧ t.bus.clear = s.bus.clear
      ∧ (let asked := { s.request with
           slots := Table.put s.request.slots q.station.toNat (some { kind := k, stamp := t.now }) }
         let command := ({ s with request := asked } : State).command
         SettlesFrom { s with request := asked } t
           ∧ (s.assemblyHolds = true → t.request = asked ∧ t.ctrl.assembled = true
               ∧ (s.ctrl.state ≠ .assembling → t.peers = s.peers)
               ∧ (s.ctrl.state = .ready ∨ s.ctrl.state = .seating →
                   t.ctrl.state = (if command = .raise then .seating else .ready)))
           ∧ (s.ctrl.state = .halted → t.ctrl.state = .halted)
           ∧ (s.ctrl.state = .holding ∨ s.ctrl.state = .lifting ∨ s.ctrl.state = .lowering ∨ s.ctrl.state = .parked →
               t.ctrl.state = (match command with
                 | .raise => if s.membersPoised then .lifting else .holding
                 | .lower => if s.membersLanded then .unseating else if s.membersPoised then .lowering else .holding
                 | .conflict => .holding
                 | .none => s.ctrl.state))
           ∧ (s.ctrl.state = .unseating → command = .raise →
               t.ctrl.state = (if s.membersPoised then .lifting else .holding))
           ∧ (s.ctrl.state = .unseating → command ≠ .raise → t.ctrl.state = .unseating))

/-- CLEAR_FRAME, accepted from a FRESH entry: in HALTED a clear attempt that keeps the level causes whose condition is present
and fails with the first of them, or succeeds, starts the grace and returns to HOLDING with the contact record, else to
READY or ASSEMBLING, and on as the tables say; nothing in any other state; from an entry that is not FRESH it is no clear
(R17, R28, R118 to R122, R137).
The model's own in it: the transitions that follow read their conditions as levels (log entry 7); the measure of idle before a
frame (log entry 12); what is taken from an absent configuration is 0 (log entry 18).
The clock `now` is the model's (log entry 2). -/
def Obligations.AcceptedClearFrameMakesAClearAttempt : Prop :=
  ∀ (s : State) (m : Time) (q : RequestFields) (e : Entry), s.start.resetHeld = false →
    s.ctrl.state.isOperating = true → 1 ≤ q.station.toNat → q.station.toNat ≤ 24 →
    s.bus.receiver = .takingFrame ∨ s.bus.idleFrom + 82 ≤ max s.now m →
    q.station.toNat ≠ s.ownNumber → Table.get s.peers.entries q.station.toNat = some e →
    s.ctrl.assembled = true → e.member = true → e.faulty = false →
    e.content.map Content.unitNumber = some q.unitNumber.toNat → q.code = 3#8 →
    ∃ t, exec (.clearFrame m q.chars) s = .next t
      ∧ t.now = max s.now m ∧ t.start = s.start ∧ t.meas.stroke = s.meas.stroke
      ∧ (s.ctrl.state ≠ .halted ∨ e.status ≠ .fresh → t = { s with now := t.now, bus := t.bus })
      ∧ t.bus = { s.bus with receiver := .waitingForIdle, idleFrom := max s.bus.idleFrom t.now }
      ∧ (s.ctrl.state = .halted → e.status = .fresh →
          (let kept := s.halt.causes.filter s.conditionPresent
           t.halt.causes = kept
             ∧ (∀ c ∈ kept.head?, t.ctrl = s.ctrl ∧ t.halt.grace = s.halt.grace ∧ t.drive = s.drive
                 ∧ t.engine = s.engine ∧ t.peers = s.peers ∧ t.request = s.request
                 ∧ t.halt.first = some { cause := c, origin := s.ownNumber })
             ∧ (kept = [] → t.halt.first = none ∧ t.halt.grace = some (t.now + 60000) ∧ t.halt.faultLamp = false
                 ∧ t.ctrl.contact = s.ctrl.contact ∧ HandsOn s t ∧ ReturnsFromHalt s t
                 ∧ (s.ctrl.contact.isSome = true → s.command = .none → t.ctrl.state = .holding
                     ∧ t.request = s.request ∧ t.peers = s.peers)
                 ∧ (s.ctrl.contact = none → s.assemblyHolds = true →
                     t.ctrl.state = (if s.command = .raise then .seating else .ready)
                       ∧ t.request = s.request ∧ t.peers = s.peers)
                 ∧ (s.ctrl.contact = none → s.assemblyHolds = false → s.groupAssembled = false →
                     t.ctrl.state = .assembling ∧ t.ctrl.assembled = false))))

/-! ## Deadlines -/

/-- SLOT_WINDOW_EXPIRY, CONTEST_DEADLINE_EXPIRY, CLASH_HOLD_EXPIRY and CLEAR_GRACE_END: a slot empties 60 ms after its stamp, a
contested mark and the number-clash indication end at their deadlines, the grace ends, each at its moment and without a
cause. The station comes to rest under what is left: the group command lapses, and an assembly that a contest or a clash held
up completes (R5, R16, R23 to R26, R59, R61, R122, R138). In HALTED nothing else changes: the park timer stands stopped, the
READY lamp dark and the FAULT lamp lit, as the lamp law has them.
The model's own in it: the transitions that follow read their conditions as levels (log entry 7); what is taken from an absent
configuration is 0 (log entry 18).
The clock `now` is the model's (log entry 2). -/
def Obligations.DeadlinesEndWhatTheyHold : Prop :=
  ∀ (s : State) (n : Nat) (x : Slot) (e : Entry) (due : Time), s.start.resetHeld = false →
    (let haltedCtrl := { s.ctrl with parkTimer := none, readyLamp := false }
     let haltedHalt := { s.halt with faultLamp := true }
     (Table.get s.request.slots n = some (some x) →
      ∃ t, exec (.slotWindowExpiry n) s = .next t ∧ t.now = max s.now (x.stamp + 60000)
        ∧ Table.get t.request.slots n = some none ∧ OnlyMotionFollows s t
        ∧ t.bus.motion = s.bus.motion ∧ t.bus.clear = s.bus.clear
        ∧ (let lapsed := { s.request with slots := Table.put s.request.slots n none }
           SettlesFrom { s with request := lapsed } t
             ∧ (s.assemblyHolds = true → t.request = lapsed)
             ∧ (s.ctrl.state = .halted →
                 t = { s with now := t.now, request := lapsed, ctrl := haltedCtrl, halt := haltedHalt })))
    ∧ (Table.get s.peers.entries n = some e → e.contestDeadline = some due →
      ∃ t, exec (.contestDeadlineExpiry n) s = .next t ∧ t.now = max s.now due
        ∧ OnlyMotionFollows s t ∧ t.bus.motion = s.bus.motion ∧ t.bus.clear = s.bus.clear
        ∧ (let taken : State := s.putEntry n { e with contested := false, contestDeadline := none }
           SettlesFrom taken t
             ∧ (s.ctrl.state = .halted →
                 t = { s with now := t.now, ctrl := haltedCtrl, halt := haltedHalt, peers := taken.peers })
             ∧ (s.ctrl.state = .assembling → taken.groupAssembled = true → s.command ≠ .raise →
                 t.ctrl.state = .ready ∧ t.ctrl.assembled = true ∧ t.ctrl.fresh = false
                   ∧ ∀ y ∈ t.peers.entries.toList, y.member = y.eligible s.start.digest)))
    ∧ (s.peers.clashHold = some due →
      ∃ t, exec .clashHoldExpiry s = .next t ∧ t.now = max s.now due ∧ t.peers.clashHold = none
        ∧ t.start = s.start ∧ t.meas.stroke = s.meas.stroke
        ∧ t.halt.causes = s.halt.causes ∧ t.halt.first = s.halt.first
        ∧ (let taken : State := { s with peers := { s.peers with clashHold := none } }
           SettlesFrom taken t ∧ HandsOn s t
             ∧ (s.ctrl.state = .halted →
                 t = { s with now := t.now, ctrl := haltedCtrl, halt := haltedHalt, peers := taken.peers })
             ∧ (s.ctrl.state = .assembling → taken.groupAssembled = true → s.command ≠ .raise →
                 t.ctrl.state = .ready ∧ t.ctrl.assembled = true ∧ t.ctrl.fresh = false
                   ∧ ∀ y ∈ t.peers.entries.toList, y.member = y.eligible s.start.digest)))
    ∧ (s.halt.grace = some due →
      exec .clearGraceEnd s = .next { s with now := max s.now due, halt := { s.halt with grace := none } }))

/-- STALE_DEADLINE_EXPIRY: the entry becomes STALE with its content and stamps kept, its early, faulty and contested marks clear,
the allowance AVAILABLE and its deadlines stopped; a member's loss raises PEER_LOST in the loaded states and HALTED, in
READY ends the assembly, and in JOG clears the flag; the station comes to rest on the entry as it is; a stopped deadline
does not pass (R10, R16, R73, R74).
The model's own in it: a deadline that is stopped does not pass, and its command is no event (log entries 2 and 6); an event
that raises a cause and meets a transition takes the cause first (R28, log entry 9); the transitions that follow read their
conditions as levels (log entry 7); what is taken from an absent configuration is 0 (log entry 18).
The clock `now` is the model's (log entry 2). -/
def Obligations.StaleDeadlineLosesTheMember : Prop :=
  ∀ (s : State) (n : Nat) (e : Entry) (due : Time), s.start.resetHeld = false →
    Table.get s.peers.entries n = some e →
    (e.staleDeadline = none → exec (.staleDeadlineExpiry n) s = .next s)
    ∧ (e.staleDeadline = some due →
      ∃ t, exec (.staleDeadlineExpiry n) s = .next t ∧ t.now = max s.now due ∧ t.start = s.start
        ∧ t.meas.stroke = s.meas.stroke ∧ t.peers.clashHold = s.peers.clashHold
        ∧ (let taken : State := s.putEntry n { e with
             status := .stale, staleDeadline := none, early := false, faulty := false, contested := false,
             contestDeadline := none, allowance := .available }
           (e.member = true → s.ctrl.state.raisesPeerCauses = true →
               TakesCauses s t [.peerLost] .peerLost s.ownNumber ∧ t.peers = taken.peers ∧ t.request = s.request)
             ∧ (e.member = false ∨ s.ctrl.state.raisesPeerCauses = false →
                 OnlyMotionFollows s t ∧ SettlesFrom taken t)
             ∧ (e.member = true → s.ctrl.state = .ready → EntersAssembling taken t)
             ∧ (e.member = true → s.ctrl.assembled = true → s.ctrl.state = .jog → LosesFlagInJog s t)))

/-- PARK_TIMER_EXPIRY in HOLDING with the command NONE: PARKED, the context kept, the brake, the measurement unit and the group's
tables as they stand, a prompt report asked for, and the report timer at the SLOW interval where the report is queued
(R159, R160).
The model's own in it: a stopped counter keeps its value (log entry 8); a prompt report asked for while a report is under
attempt is held with the restart of its timer (log entry 16).
The clock `now` is the model's (log entry 2). -/
def Obligations.ParkTimerParksTheStation : Prop :=
  ∀ (s : State) (due : Time), s.start.resetHeld = false → s.ctrl.parkTimer = some due → s.ctrl.state = .holding →
    s.command = .none →
    ∃ t, exec .parkTimerExpiry s = .next t ∧ t.now = max s.now due
      ∧ t.ctrl = { s.ctrl with state := .parked, parkTimer := none, readyLamp := s.ctrl.assembled }
      ∧ t.drive.brake = s.drive.brake ∧ t.drive.setDelay = s.drive.setDelay
      ∧ t.drive.creepReference = s.drive.creepReference ∧ t.engine.commanded = 0
      ∧ t.engine.direction = s.engine.direction
      ∧ t.meas = { s.meas with contact := s.meas.contact.stopped, release := s.meas.release.stopped }
      ∧ t.start = s.start ∧ t.peers = s.peers ∧ t.request = s.request
      ∧ t.halt = { s.halt with faultLamp := false }
      ∧ AsksPromptReport s t .slow
      ∧ (s.bus.attempt = none → s.bus.promptSpent = true → s.bus.report = none → t.bus = s.bus)

/-! ## The lift bus -/

/-- REPORT_TIMER_EXPIRY: a scheduled report enters an empty place, merges into a waiting token, or is held as pending while a
report is under attempt; the timer restarts at its own pace with the interval of the state that stands; nothing outside the
bus interface changes (R174, R176).
The model's own in it: a pending request keeps whether the timer restarts with it (log entry 16).
The clock `now` is the model's (log entry 2). -/
def Obligations.ReportTimerQueuesAScheduledReport : Prop :=
  ∀ (s : State) (x : ReportTimer), s.start.resetHeld = false → s.bus.reportTimer = some x →
    ∃ t, exec .reportTimerExpiry s = .next t ∧ t = { s with now := max s.now x.due, bus := t.bus }
      ∧ (let slow := s.ctrl.state = .parked ∨ s.ctrl.state = .configFault
         t.bus.reportTimer = some { due := x.due + (if slow then 500000 else 20000)
                                    interval := if slow then .slow else .fast })
      ∧ t.bus.motion = s.bus.motion ∧ t.bus.clear = s.bus.clear ∧ t.bus.attempt = s.bus.attempt
      ∧ t.bus.promptSpent = s.bus.promptSpent ∧ t.bus.retryOffset = s.bus.retryOffset
      ∧ (s.bus.underAttempt .report = true → t.bus.report = s.bus.report ∧ t.bus.accessWait = s.bus.accessWait
          ∧ t.bus.pendingReport = some (s.bus.pendingReport.getD { prompt := false, restart := false }))
      ∧ (s.bus.underAttempt .report = false → t.bus.pendingReport = s.bus.pendingReport
          ∧ t.bus.report = some (s.bus.report.getD { prompt := false, entered := t.now, attempts := 0 })
          ∧ t.bus.accessWait = (if s.bus.isEmpty then some t.now else s.bus.accessWait))

/-- ACCESS_GAINED: when the line has been idle for 24 + 2 × (s - 1) bit times with the retry offset, an attempt begins with the
front token, a prompt report before the others, which follow by age; its frame is taken from the blocks as they stand, the
wait is over and the offset returns to 0 (R175, R178, R179, R181). The frame's characters are driven back to back, each a
start bit, its data bits from the least significant and a stop bit, and the idle level outside an attempt (R170); the own
receiver takes the frame (R171). A report carries its fields from the blocks, with the class summary and the indications of
number clash or surplus and of conflict, and they read back as they stand (R1, R10, R48, R59, R104, R112, R116, R141, R179, R193,
R197); a request frame carries the two numbers and its code (R198).
The model's own in it: the measure of idle (log entry 12).
The clock `now` is the model's (log entry 2). -/
def Obligations.AccessBeginsWithTheFrontToken : Prop :=
  ∀ (s : State) (w : Time), s.start.resetHeld = false → s.bus.attempt = none → s.bus.accessWait = some w →
    s.bus.isEmpty = false →
    ∃ t p, exec .accessGained s = .next t
      ∧ t.now = max s.now (max w s.bus.idleFrom + (24 + 2 * (s.ownNumber - 1)) + s.bus.retryOffset)
      ∧ t = { s with now := t.now, bus := { s.bus with
          accessWait := none, retryOffset := 0, receiver := .takingFrame, idleFrom := t.now + 10
          attempt := some { place := p, began := t.now, frame := match p with
            | .report => (s.reportFields (s.bus.report.any ReportToken.prompt)).chars
            | .motion => (s.requestFields (if s.bus.motion.map MotionToken.kind = some .lower then 2 else 1)).chars
            | .clear => (s.requestFields 3).chars } } }
      ∧ (let prompt := s.bus.report.any ReportToken.prompt
         CarriesTheBlocks s prompt (s.reportFields prompt) ∧ ReadsBackAsItStands s (s.reportFields prompt))
      ∧ (∀ code, s.requestFields code
          = { station := BitVec.ofNat 5 s.ownNumber, unitNumber := BitVec.ofNat 16 s.start.unitNumber, code := code })
      ∧ s.bus.drivenLevel t.now = .idle
      ∧ (∀ a ∈ t.bus.attempt, ∀ j < a.frame.length,
          (∀ k < 8, t.bus.drivenLevel (t.now + 10 * j + 1 + k) = (if (a.frame.getD j 0#8).getLsbD k then .idle else .drive))
            ∧ t.bus.drivenLevel (t.now + 10 * j) = .drive ∧ t.bus.drivenLevel (t.now + 10 * j + 9) = .idle
            ∧ t.bus.drivenLevel (t.now + 10 * a.frame.length + j) = .idle)
      ∧ (s.bus.report.any ReportToken.prompt = true → p = .report)
      ∧ (s.bus.report.any ReportToken.prompt = false →
          ∃ entered, s.bus.enteredAt p = some entered
            ∧ (∀ x ∈ s.bus.enteredAt .report, entered ≤ x ∧ (entered = x → p = .report))
            ∧ (∀ x ∈ s.bus.enteredAt .clear, entered ≤ x ∧ (entered = x → p ≠ .motion))
            ∧ (∀ x ∈ s.bus.enteredAt .motion, entered ≤ x))

/-- ATTEMPT_SENT: at the frame's end the token leaves its place, a report sets the prompt-spent flag when it carries the prompt
mark and clears it when it does not, the pending requests are judged, the report timer restarts where a pending request of a
parking or a wake is queued, and the access wait begins again where tokens wait; nothing outside the bus interface changes (R160,
R174, R177, R180).
The model's own in it: the measure of idle (log entry 12); the restart of the report timer is kept with a pending request (log
entry 16).
The clock `now` is the model's (log entry 2). -/
def Obligations.SentFrameLeavesTheQueue : Prop :=
  ∀ (s : State) (a : Attempt), s.start.resetHeld = false → s.bus.attempt = some a →
    ∃ t, exec .attemptSent s = .next t
      ∧ t = { s with now := max s.now (a.began + 10 * a.frame.length), bus := t.bus }
      ∧ t.bus.attempt = none ∧ t.bus.pendingReport = none ∧ t.bus.pendingMotion = none
      ∧ t.bus.idleFrom = max s.bus.idleFrom t.now ∧ t.bus.receiver = .waitingForIdle
      ∧ t.bus.retryOffset = s.bus.retryOffset
      ∧ t.bus.accessWait = (if t.bus.isEmpty then none else some t.now)
      ∧ t.bus.promptSpent = (if a.place = .report then
          (s.bus.report.map ReportToken.prompt).getD s.bus.promptSpent else s.bus.promptSpent)
      ∧ t.bus.clear = (if a.place = .clear then none else s.bus.clear)
      ∧ t.bus.motion = (match s.bus.pendingMotion with
          | some k => some { kind := k, entered := t.now, attempts := 0 }
          | none => if a.place = .motion then none else s.bus.motion)
      ∧ (a.place = .report → t.bus.report = (match s.bus.pendingReport with
          | some x => if x.prompt && t.bus.promptSpent then none
              else some { prompt := x.prompt, entered := t.now, attempts := 0 }
          | none => none))
      ∧ (a.place ≠ .report → s.bus.pendingReport = none → t.bus.report = s.bus.report
          ∧ t.bus.reportTimer = s.bus.reportTimer)
      ∧ (let slow := s.ctrl.state = .parked ∨ s.ctrl.state = .configFault
         a.place = .report → t.bus.reportTimer
           = (if s.bus.pendingReport.any (fun x => x.prompt && x.restart) = true ∧ t.bus.promptSpent = false
               then some { due := t.now + (if slow then 500000 else 20000), interval := if slow then .slow else .fast }
               else s.bus.reportTimer))

/-- ATTEMPT_ABANDONED: the failure is counted at the token and the retry offset of the next access is 2 × ((d + 7 × a) mod 16)
with d the digit of the unit number in base 16 in the place (a - 1) mod 4; the token stays waiting, unless the sixteenth
attempt or the 10 ms limit drops it, which raises BUS_BLOCKED (R180 to R182); the line is idle when it is no longer held
(R170), and a frame whose first character failed was none for the own receiver (R171). The pending requests are then
judged: a motion request enters or replaces, a report request finds the place and the prompt-spent flag as the outcome leaves
them, after the prompt report of a halt, and one of a parking or a wake that is queued restarts the report timer (R160, R168,
R174, R177).
The model's own in it: the measure of idle (log entry 12); the limit of 10 ms is strict at an attempt's end (log entry 13); a
dropped token's failure forms the offset too (log entry 14); the restart of the report timer is kept with a pending request
(log entry 16).
The clock `now` is the model's (log entry 2). -/
def Obligations.AbandonedAttemptWaitsOrIsDropped : Prop :=
  ∀ (s : State) (a : Attempt) (broken : BrokenCharacter) (entered : Time), s.start.resetHeld = false →
    s.bus.attempt = some a → s.bus.enteredAt a.place = some entered →
    ∃ t, exec (.attemptAbandoned broken) s = .next t
      ∧ t.now = max s.now (a.began + 10 * min broken.number a.frame.length)
      ∧ t.bus.idleFrom = max s.bus.idleFrom (t.now + broken.held)
      ∧ t.bus.receiver = (if broken.number ≤ 1 ∨ 0 < broken.held then .waitingForIdle else s.bus.receiver)
      ∧ t.start = s.start ∧ t.peers = s.peers ∧ t.request = s.request ∧ t.meas.stroke = s.meas.stroke
      ∧ t.bus.attempt = none ∧ t.bus.pendingReport = none ∧ t.bus.pendingMotion = none
      ∧ t.bus.promptSpent = s.bus.promptSpent
      ∧ t.bus.accessWait = (if t.bus.isEmpty then none else some t.now)
      ∧ (let fails := s.bus.attemptsOf a.place + 1
         let d := s.start.unitNumber / 16 ^ ((fails - 1) % 4) % 16
         t.bus.retryOffset = 2 * ((d + 7 * fails) % 16) ∧ t.bus.retryOffset ≤ 30
           ∧ (let dropped := 16 ≤ fails ∨ entered + 10000 < t.now
              let halts := dropped ∧ s.ctrl.state.isOperating = true ∧ s.ctrl.state ≠ .halted
              let left := if a.place ≠ .report then s.bus.report else if dropped then none
                else s.bus.report.map (fun x => { x with attempts := fails })
              let found := if halts ∧ s.bus.promptSpent = false
                then some { left.getD { prompt := true, entered := t.now, attempts := 0 } with prompt := true } else left
              let slow := t.ctrl.state = .parked ∨ t.ctrl.state = .configFault
              let asked := s.bus.pendingReport.any (fun x => x.prompt && x.restart)
              t.bus.motion = (match s.bus.pendingMotion with
                  | some k => some { kind := k, entered := t.now, attempts := 0 }
                  | none => if a.place ≠ .motion then s.bus.motion else if dropped then none
                      else s.bus.motion.map (fun x => { x with attempts := fails }))
                ∧ t.bus.clear = (if a.place ≠ .clear then s.bus.clear else if dropped then none
                    else s.bus.clear.map (fun x => { x with attempts := fails }))
                ∧ t.bus.report = (match s.bus.pendingReport with
                  | none => found
                  | some x => if x.prompt && s.bus.promptSpent then found
                      else some (found.elim { prompt := x.prompt, entered := t.now, attempts := 0 }
                        (fun y => { y with prompt := y.prompt || x.prompt })))
                ∧ t.bus.reportTimer = (if asked = true ∧ (s.bus.promptSpent = false ∨ found.isSome = true)
                    then some { due := t.now + (if slow then 500000 else 20000), interval := if slow then .slow else .fast }
                    else if halts ∧ s.ctrl.state = .parked ∧ (s.bus.promptSpent = false ∨ left.isSome = true)
                      then some { due := t.now + 20000, interval := .fast }
                    else s.bus.reportTimer))
           ∧ (fails < 16 → t.now ≤ entered + 10000 →
               t = { s with now := t.now, bus := t.bus }
                 ∧ (s.bus.pendingMotion = none → t.bus.enteredAt a.place = some entered
                     ∧ t.bus.attemptsOf a.place = fails))
           ∧ (16 ≤ fails ∨ entered + 10000 < t.now →
               (a.place = .motion → s.bus.pendingMotion = none → t.bus.motion = none)
                 ∧ (a.place = .clear → t.bus.clear = none)
                 ∧ (∀ x ∈ t.bus.report, a.place = .report → x.entered = t.now ∧ x.attempts = 0)
                 ∧ (s.ctrl.state.isOperating = false →
                     t.ctrl = s.ctrl ∧ t.halt.causes = s.halt.causes ∧ t.halt.first = s.halt.first)
                 ∧ TakesCauses s t [.busBlocked] .busBlocked s.ownNumber))

/-- Two parts that carry one station number and different unit numbers draw different retry offsets at one or more of any four
consecutive equal attempt counts (R181). -/
def Obligations.FourRetriesSeparateTwoUnitNumbers : Prop :=
  ∀ (u v a : Nat), u < 65536 → v < 65536 → u ≠ v → 1 ≤ a →
    retryOffset u a ≠ retryOffset v a ∨ retryOffset u (a + 1) ≠ retryOffset v (a + 1)
      ∨ retryOffset u (a + 2) ≠ retryOffset v (a + 2) ∨ retryOffset u (a + 3) ≠ retryOffset v (a + 3)

/-- TOKEN_TIMEOUT: a waiting token is dropped 10 ms after its entry and BUS_BLOCKED is raised; a token under attempt is not
waiting (R182).
The model's own in it: the limit is met at 10 ms (log entry 13); the command for a token under attempt is no event (log entry
6).
The clock `now` is the model's (log entry 2). -/
def Obligations.WaitingTokenIsDroppedAfterTenMs : Prop :=
  ∀ (s : State) (p : Place) (entered : Time), s.start.resetHeld = false → s.bus.enteredAt p = some entered →
    (s.bus.underAttempt p = true → exec (.tokenTimeout p) s = .next s)
    ∧ (s.bus.underAttempt p = false →
      ∃ t, exec (.tokenTimeout p) s = .next t ∧ t.now = max s.now (entered + 10000)
        ∧ t.start = s.start ∧ t.peers = s.peers ∧ t.request = s.request ∧ t.meas.stroke = s.meas.stroke
        ∧ t.bus.promptSpent = s.bus.promptSpent ∧ t.bus.attempt = s.bus.attempt
        ∧ (p = .motion → t.bus.motion = none ∧ t.bus.clear = s.bus.clear)
        ∧ (p = .clear → t.bus.clear = none ∧ t.bus.motion = s.bus.motion)
        ∧ (p = .report → ∀ x ∈ t.bus.report, x.entered = t.now ∧ x.prompt = true ∧ x.attempts = 0)
        ∧ TakesCauses s t [.busBlocked] .busBlocked s.ownNumber)

/-- START_BIT_SEEN and RECEIVED_FRAME_DISCARDED touch the line's part of the bus interface alone. The idle measure starts again
at the end of the character, or, where its stop bit is at the drive level, when the line is no longer held there. The
receiver takes a frame at a character A5h after 12 bit times of idle or more, goes on with one it is taking, and ignores any
other character; a framing error and a discarded frame leave it waiting for idle (R170 to R172, R178; the idle measure is
the model's, log entry 12).
The clock `now` is the model's (log entry 2). -/
def Obligations.LineEventsTouchTheLinePartAlone : Prop :=
  ∀ (s : State) (m : Time) (levels : BitVec 9) (held : Time) (why : DiscardReason), s.start.resetHeld = false →
    (∃ t, exec (.startBitSeen { moment := m, levels := levels, held := held }) s = .next t
      ∧ t = { s with now := max s.now m, bus := { s.bus with receiver := t.bus.receiver, idleFrom := t.bus.idleFrom } }
      ∧ (let stopIsIdle := levels.getLsbD 8 = true
         let isA5 := levels.extractLsb' 0 8 = 0xA5#8
         let taking := s.bus.receiver = .takingFrame
         let idle := s.bus.idleFrom + 12
         (stopIsIdle → t.bus.idleFrom = max s.bus.idleFrom (t.now + 10))
           ∧ (¬stopIsIdle → t.bus.idleFrom = max s.bus.idleFrom (t.now + 10 + held)
               ∧ t.bus.receiver = .waitingForIdle)
           ∧ (stopIsIdle → taking → s.bus.attempt.isSome = true ∨ t.now ≤ idle → t.bus.receiver = .takingFrame)
           ∧ (stopIsIdle → idle ≤ t.now → isA5 → t.bus.receiver = .takingFrame)
           ∧ (stopIsIdle → idle ≤ t.now → ¬isA5 → ¬taking ∨ s.bus.attempt = none ∧ idle < t.now →
               t.bus.receiver = .waitingForIdle)
           ∧ (stopIsIdle → t.now < idle → ¬taking → t.bus.receiver = .waitingForIdle)))
    ∧ (∃ t, exec (.receivedFrameDiscarded m why) s = .next t
      ∧ t = { s with now := max s.now m, bus := { s.bus with receiver := .waitingForIdle, idleFrom := t.bus.idleFrom } }
      ∧ t.bus.idleFrom = (match why with
          | .idleGap => s.bus.idleFrom
          | .framingError h => max s.bus.idleFrom (t.now + h)
          | _ => max s.bus.idleFrom t.now))
end

