-- ==== Sys2Proof/Laws/State.lean ====
section
/-! SUPPORT. One lemma per field of the state for each plain update, true by rfl: later proofs do not unfold an update. -/

namespace Sys2Proof.Machine

variable (s : State)

/-! `State.tick` -/

@[simp] theorem State.tick_now (t : Time) : (s.tick t).now = max s.now t := rfl
@[simp] theorem State.tick_start (t : Time) : (s.tick t).start = s.start := rfl
@[simp] theorem State.tick_meas (t : Time) : (s.tick t).meas = s.meas := rfl
@[simp] theorem State.tick_peers (t : Time) : (s.tick t).peers = s.peers := rfl
@[simp] theorem State.tick_engine (t : Time) : (s.tick t).engine = s.engine := rfl
@[simp] theorem State.tick_drive (t : Time) : (s.tick t).drive = s.drive := rfl
@[simp] theorem State.tick_request (t : Time) : (s.tick t).request = s.request := rfl
@[simp] theorem State.tick_ctrl (t : Time) : (s.tick t).ctrl = s.ctrl := rfl
@[simp] theorem State.tick_halt (t : Time) : (s.tick t).halt = s.halt := rfl
@[simp] theorem State.tick_bus (t : Time) : (s.tick t).bus = s.bus := rfl
@[simp] theorem State.tick_pending (t : Time) : (s.tick t).pending = s.pending := rfl

/-! `State.withState` -/

@[simp] theorem State.withState_now (st : StationState) : (s.withState st).now = s.now := rfl
@[simp] theorem State.withState_start (st : StationState) : (s.withState st).start = s.start := rfl
@[simp] theorem State.withState_meas (st : StationState) : (s.withState st).meas = s.meas := rfl
@[simp] theorem State.withState_peers (st : StationState) : (s.withState st).peers = s.peers := rfl
@[simp] theorem State.withState_engine (st : StationState) : (s.withState st).engine = s.engine := rfl
@[simp] theorem State.withState_drive (st : StationState) : (s.withState st).drive = s.drive := rfl
@[simp] theorem State.withState_request (st : StationState) : (s.withState st).request = s.request := rfl
@[simp] theorem State.withState_ctrl (st : StationState) : (s.withState st).ctrl = { s.ctrl with state := st } := rfl
@[simp] theorem State.withState_halt (st : StationState) : (s.withState st).halt = s.halt := rfl
@[simp] theorem State.withState_bus (st : StationState) : (s.withState st).bus = s.bus := rfl
@[simp] theorem State.withState_pending (st : StationState) : (s.withState st).pending = s.pending := rfl

/-! `State.handOver` -/

@[simp] theorem State.handOver_now : s.handOver.now = s.now := rfl
@[simp] theorem State.handOver_start : s.handOver.start = s.start := rfl
@[simp] theorem State.handOver_meas : s.handOver.meas = s.meas := rfl
@[simp] theorem State.handOver_peers : s.handOver.peers = s.peers := rfl
@[simp] theorem State.handOver_engine : s.handOver.engine = s.engine := rfl
@[simp] theorem State.handOver_drive :
    s.handOver.drive = s.drive.handOver s.start.dMin s.meas.stroke s.engine.commanded s.engine.direction := rfl
@[simp] theorem State.handOver_request : s.handOver.request = s.request := rfl
@[simp] theorem State.handOver_ctrl : s.handOver.ctrl = s.ctrl := rfl
@[simp] theorem State.handOver_halt : s.handOver.halt = s.halt := rfl
@[simp] theorem State.handOver_bus : s.handOver.bus = s.bus := rfl
@[simp] theorem State.handOver_pending : s.handOver.pending = s.pending := rfl

/-! `State.putEntry` -/

@[simp] theorem State.putEntry_now (n : Nat) (e : Entry) : (s.putEntry n e).now = s.now := rfl
@[simp] theorem State.putEntry_start (n : Nat) (e : Entry) : (s.putEntry n e).start = s.start := rfl
@[simp] theorem State.putEntry_meas (n : Nat) (e : Entry) : (s.putEntry n e).meas = s.meas := rfl
@[simp] theorem State.putEntry_peers (n : Nat) (e : Entry) :
    (s.putEntry n e).peers = { s.peers with entries := Table.put s.peers.entries n e } := rfl
@[simp] theorem State.putEntry_engine (n : Nat) (e : Entry) : (s.putEntry n e).engine = s.engine := rfl
@[simp] theorem State.putEntry_drive (n : Nat) (e : Entry) : (s.putEntry n e).drive = s.drive := rfl
@[simp] theorem State.putEntry_request (n : Nat) (e : Entry) : (s.putEntry n e).request = s.request := rfl
@[simp] theorem State.putEntry_ctrl (n : Nat) (e : Entry) : (s.putEntry n e).ctrl = s.ctrl := rfl
@[simp] theorem State.putEntry_halt (n : Nat) (e : Entry) : (s.putEntry n e).halt = s.halt := rfl
@[simp] theorem State.putEntry_bus (n : Nat) (e : Entry) : (s.putEntry n e).bus = s.bus := rfl
@[simp] theorem State.putEntry_pending (n : Nat) (e : Entry) : (s.putEntry n e).pending = s.pending := rfl

/-! `State.putSlot` -/

@[simp] theorem State.putSlot_now (n : Nat) (x : Option Slot) : (s.putSlot n x).now = s.now := rfl
@[simp] theorem State.putSlot_start (n : Nat) (x : Option Slot) : (s.putSlot n x).start = s.start := rfl
@[simp] theorem State.putSlot_meas (n : Nat) (x : Option Slot) : (s.putSlot n x).meas = s.meas := rfl
@[simp] theorem State.putSlot_peers (n : Nat) (x : Option Slot) : (s.putSlot n x).peers = s.peers := rfl
@[simp] theorem State.putSlot_engine (n : Nat) (x : Option Slot) : (s.putSlot n x).engine = s.engine := rfl
@[simp] theorem State.putSlot_drive (n : Nat) (x : Option Slot) : (s.putSlot n x).drive = s.drive := rfl
@[simp] theorem State.putSlot_request (n : Nat) (x : Option Slot) :
    (s.putSlot n x).request = { s.request with slots := Table.put s.request.slots n x } := rfl
@[simp] theorem State.putSlot_ctrl (n : Nat) (x : Option Slot) : (s.putSlot n x).ctrl = s.ctrl := rfl
@[simp] theorem State.putSlot_halt (n : Nat) (x : Option Slot) : (s.putSlot n x).halt = s.halt := rfl
@[simp] theorem State.putSlot_bus (n : Nat) (x : Option Slot) : (s.putSlot n x).bus = s.bus := rfl
@[simp] theorem State.putSlot_pending (n : Nat) (x : Option Slot) : (s.putSlot n x).pending = s.pending := rfl

/-! `State.addCauses` -/

@[simp] theorem State.addCauses_now (cs : List Cause) : (s.addCauses cs).now = s.now := rfl
@[simp] theorem State.addCauses_start (cs : List Cause) : (s.addCauses cs).start = s.start := rfl
@[simp] theorem State.addCauses_meas (cs : List Cause) : (s.addCauses cs).meas = s.meas := rfl
@[simp] theorem State.addCauses_peers (cs : List Cause) : (s.addCauses cs).peers = s.peers := rfl
@[simp] theorem State.addCauses_engine (cs : List Cause) : (s.addCauses cs).engine = s.engine := rfl
@[simp] theorem State.addCauses_drive (cs : List Cause) : (s.addCauses cs).drive = s.drive := rfl
@[simp] theorem State.addCauses_request (cs : List Cause) : (s.addCauses cs).request = s.request := rfl
@[simp] theorem State.addCauses_ctrl (cs : List Cause) : (s.addCauses cs).ctrl = s.ctrl := rfl
@[simp] theorem State.addCauses_halt (cs : List Cause) :
    (s.addCauses cs).halt = { s.halt with causes := Cause.insertAll cs s.halt.causes } := rfl
@[simp] theorem State.addCauses_bus (cs : List Cause) : (s.addCauses cs).bus = s.bus := rfl
@[simp] theorem State.addCauses_pending (cs : List Cause) : (s.addCauses cs).pending = s.pending := rfl

/-! `State.clearFlag` -/

@[simp] theorem State.clearFlag_now : s.clearFlag.now = s.now := rfl
@[simp] theorem State.clearFlag_start : s.clearFlag.start = s.start := rfl
@[simp] theorem State.clearFlag_meas : s.clearFlag.meas = s.meas := rfl
@[simp] theorem State.clearFlag_peers :
    s.clearFlag.peers = { s.peers with entries := Table.map Entry.unmark s.peers.entries } := rfl
@[simp] theorem State.clearFlag_engine : s.clearFlag.engine = s.engine := rfl
@[simp] theorem State.clearFlag_drive : s.clearFlag.drive = s.drive := rfl
@[simp] theorem State.clearFlag_request :
    s.clearFlag.request = { s.request with slots := Vector.replicate 24 none, sequence := none } := rfl
@[simp] theorem State.clearFlag_ctrl : s.clearFlag.ctrl = { s.ctrl with assembled := false } := rfl
@[simp] theorem State.clearFlag_halt : s.clearFlag.halt = s.halt := rfl
@[simp] theorem State.clearFlag_bus : s.clearFlag.bus = s.bus := rfl
@[simp] theorem State.clearFlag_pending : s.clearFlag.pending = s.pending := rfl

/-! `State.enterAssembling` -/

@[simp] theorem State.enterAssembling_now : s.enterAssembling.now = s.now := rfl
@[simp] theorem State.enterAssembling_start : s.enterAssembling.start = s.start := rfl
@[simp] theorem State.enterAssembling_meas : s.enterAssembling.meas = s.meas := rfl
@[simp] theorem State.enterAssembling_peers : s.enterAssembling.peers = s.clearFlag.peers := rfl
@[simp] theorem State.enterAssembling_engine : s.enterAssembling.engine = s.engine := rfl
@[simp] theorem State.enterAssembling_drive : s.enterAssembling.drive = s.drive := rfl
@[simp] theorem State.enterAssembling_request : s.enterAssembling.request = s.clearFlag.request := rfl
@[simp] theorem State.enterAssembling_ctrl :
    s.enterAssembling.ctrl = { s.ctrl with assembled := false, state := .assembling } := rfl
@[simp] theorem State.enterAssembling_halt : s.enterAssembling.halt = s.halt := rfl
@[simp] theorem State.enterAssembling_bus : s.enterAssembling.bus = s.bus := rfl
@[simp] theorem State.enterAssembling_pending : s.enterAssembling.pending = s.pending := rfl

/-! `State.enterAssembled` -/

@[simp] theorem State.enterAssembled_now : s.enterAssembled.now = s.now := rfl
@[simp] theorem State.enterAssembled_start : s.enterAssembled.start = s.start := rfl
@[simp] theorem State.enterAssembled_meas : s.enterAssembled.meas = s.meas := rfl
@[simp] theorem State.enterAssembled_peers :
    s.enterAssembled.peers = { s.peers with entries := Table.map (Entry.markIfEligible s.start.digest) s.peers.entries } := rfl
@[simp] theorem State.enterAssembled_engine : s.enterAssembled.engine = s.engine := rfl
@[simp] theorem State.enterAssembled_drive : s.enterAssembled.drive = s.drive := rfl
@[simp] theorem State.enterAssembled_request : s.enterAssembled.request = s.request := rfl
@[simp] theorem State.enterAssembled_ctrl :
    s.enterAssembled.ctrl = { s.ctrl with state := .ready, assembled := true, fresh := false } := rfl
@[simp] theorem State.enterAssembled_halt : s.enterAssembled.halt = s.halt := rfl
@[simp] theorem State.enterAssembled_bus : s.enterAssembled.bus = s.bus := rfl
@[simp] theorem State.enterAssembled_pending : s.enterAssembled.pending = s.pending := rfl

/-! `State.refresh` -/

@[simp] theorem State.refresh_now : s.refresh.now = s.now := rfl
@[simp] theorem State.refresh_start : s.refresh.start = s.start := rfl
@[simp] theorem State.refresh_meas : s.refresh.meas = s.meas := rfl
@[simp] theorem State.refresh_peers : s.refresh.peers = s.peers := rfl
@[simp] theorem State.refresh_engine : s.refresh.engine = s.engine := rfl
@[simp] theorem State.refresh_drive : s.refresh.drive = s.drive := rfl
@[simp] theorem State.refresh_request : s.refresh.request = s.request := rfl
@[simp] theorem State.refresh_ctrl :
    s.refresh.ctrl = { s.ctrl with
        parkTimer := s.ctrl.parkAfter s.now s.start.parkTime s.command
        readyLamp := s.ctrl.readyLampLit } := rfl
@[simp] theorem State.refresh_halt : s.refresh.halt = { s.halt with faultLamp := s.ctrl.state.faultLampLit } := rfl
@[simp] theorem State.refresh_bus : s.refresh.bus = s.bus := rfl
@[simp] theorem State.refresh_pending : s.refresh.pending = s.pending := rfl

/-! `State.endSequence` -/

@[simp] theorem State.endSequence_now : s.endSequence.now = s.now := rfl
@[simp] theorem State.endSequence_start : s.endSequence.start = s.start := rfl
@[simp] theorem State.endSequence_meas : s.endSequence.meas = s.meas := rfl
@[simp] theorem State.endSequence_peers : s.endSequence.peers = s.peers := rfl
@[simp] theorem State.endSequence_engine : s.endSequence.engine = s.engine := rfl
@[simp] theorem State.endSequence_drive : s.endSequence.drive = s.drive := rfl
@[simp] theorem State.endSequence_request : s.endSequence.request = { s.request with sequence := none } := rfl
@[simp] theorem State.endSequence_ctrl : s.endSequence.ctrl = s.ctrl := rfl
@[simp] theorem State.endSequence_halt : s.endSequence.halt = s.halt := rfl
@[simp] theorem State.endSequence_bus : s.endSequence.bus = s.bus := rfl
@[simp] theorem State.endSequence_pending : s.endSequence.pending = s.pending := rfl

/-! `State.refuse` -/

@[simp] theorem State.refuse_now : s.refuse.now = s.now := rfl
@[simp] theorem State.refuse_start : s.refuse.start = s.start := rfl
@[simp] theorem State.refuse_meas : s.refuse.meas = s.meas := rfl
@[simp] theorem State.refuse_peers : s.refuse.peers = s.peers := rfl
@[simp] theorem State.refuse_engine : s.refuse.engine = s.engine := rfl
@[simp] theorem State.refuse_drive : s.refuse.drive = s.drive := rfl
@[simp] theorem State.refuse_request :
    s.refuse.request = { s.request with refusedLamp := some (s.now + Timing.refusedPulse) } := rfl
@[simp] theorem State.refuse_ctrl : s.refuse.ctrl = s.ctrl := rfl
@[simp] theorem State.refuse_halt : s.refuse.halt = s.halt := rfl
@[simp] theorem State.refuse_bus : s.refuse.bus = s.bus := rfl
@[simp] theorem State.refuse_pending : s.refuse.pending = s.pending := rfl

/-! `State.arrive` -/

@[simp] theorem State.arrive_now : s.arrive.now = s.now := rfl
@[simp] theorem State.arrive_start : s.arrive.start = s.start := rfl
@[simp] theorem State.arrive_meas : s.arrive.meas = s.meas := rfl
@[simp] theorem State.arrive_peers : s.arrive.peers = s.peers := rfl
@[simp] theorem State.arrive_engine : s.arrive.engine = s.engine := rfl
@[simp] theorem State.arrive_drive : s.arrive.drive = s.drive := rfl
@[simp] theorem State.arrive_request : s.arrive.request = s.request := rfl
@[simp] theorem State.arrive_ctrl : s.arrive.ctrl = s.ctrl := rfl
@[simp] theorem State.arrive_halt : s.arrive.halt = s.halt := rfl
@[simp] theorem State.arrive_bus : s.arrive.bus = s.bus.frameEnd s.now := rfl
@[simp] theorem State.arrive_pending : s.arrive.pending = s.pending := rfl

/-! `State.setPressed` -/

@[simp] theorem State.setPressed_now (k : Key) (b : Bool) : (s.setPressed k b).now = s.now := rfl
@[simp] theorem State.setPressed_start (k : Key) (b : Bool) : (s.setPressed k b).start = s.start := rfl
@[simp] theorem State.setPressed_meas (k : Key) (b : Bool) : (s.setPressed k b).meas = s.meas := rfl
@[simp] theorem State.setPressed_peers (k : Key) (b : Bool) : (s.setPressed k b).peers = s.peers := rfl
@[simp] theorem State.setPressed_engine (k : Key) (b : Bool) : (s.setPressed k b).engine = s.engine := rfl
@[simp] theorem State.setPressed_drive (k : Key) (b : Bool) : (s.setPressed k b).drive = s.drive := rfl
@[simp] theorem State.setPressed_request (k : Key) (b : Bool) :
    (s.setPressed k b).request = s.request.setKey { s.request.key k with pressed := b, filterFrom := some s.now } k := rfl
@[simp] theorem State.setPressed_ctrl (k : Key) (b : Bool) : (s.setPressed k b).ctrl = s.ctrl := rfl
@[simp] theorem State.setPressed_halt (k : Key) (b : Bool) : (s.setPressed k b).halt = s.halt := rfl
@[simp] theorem State.setPressed_bus (k : Key) (b : Bool) : (s.setPressed k b).bus = s.bus := rfl
@[simp] theorem State.setPressed_pending (k : Key) (b : Bool) : (s.setPressed k b).pending = s.pending := rfl

/-! `State.freeKey` -/

@[simp] theorem State.freeKey_now (k : Key) : (s.freeKey k).now = s.now := rfl
@[simp] theorem State.freeKey_start (k : Key) : (s.freeKey k).start = s.start := rfl
@[simp] theorem State.freeKey_meas (k : Key) : (s.freeKey k).meas = s.meas := rfl
@[simp] theorem State.freeKey_peers (k : Key) : (s.freeKey k).peers = s.peers := rfl
@[simp] theorem State.freeKey_engine (k : Key) : (s.freeKey k).engine = s.engine := rfl
@[simp] theorem State.freeKey_drive (k : Key) : (s.freeKey k).drive = s.drive := rfl
@[simp] theorem State.freeKey_request (k : Key) :
    (s.freeKey k).request = s.request.setKey { s.request.key k with blocked := false, filterFrom := some s.now } k := rfl
@[simp] theorem State.freeKey_ctrl (k : Key) : (s.freeKey k).ctrl = s.ctrl := rfl
@[simp] theorem State.freeKey_halt (k : Key) : (s.freeKey k).halt = s.halt := rfl
@[simp] theorem State.freeKey_bus (k : Key) : (s.freeKey k).bus = s.bus := rfl
@[simp] theorem State.freeKey_pending (k : Key) : (s.freeKey k).pending = s.pending := rfl

/-! `State.failClear` -/

@[simp] theorem State.failClear_now (c : Cause) (cs : List Cause) : (s.failClear c cs).now = s.now := rfl
@[simp] theorem State.failClear_start (c : Cause) (cs : List Cause) : (s.failClear c cs).start = s.start := rfl
@[simp] theorem State.failClear_meas (c : Cause) (cs : List Cause) : (s.failClear c cs).meas = s.meas := rfl
@[simp] theorem State.failClear_peers (c : Cause) (cs : List Cause) : (s.failClear c cs).peers = s.peers := rfl
@[simp] theorem State.failClear_engine (c : Cause) (cs : List Cause) : (s.failClear c cs).engine = s.engine := rfl
@[simp] theorem State.failClear_drive (c : Cause) (cs : List Cause) : (s.failClear c cs).drive = s.drive := rfl
@[simp] theorem State.failClear_request (c : Cause) (cs : List Cause) : (s.failClear c cs).request = s.request := rfl
@[simp] theorem State.failClear_ctrl (c : Cause) (cs : List Cause) : (s.failClear c cs).ctrl = s.ctrl := rfl
@[simp] theorem State.failClear_halt (c : Cause) (cs : List Cause) :
    (s.failClear c cs).halt = { s.halt with causes := cs, first := some { cause := c, origin := s.ownNumber } } := rfl
@[simp] theorem State.failClear_bus (c : Cause) (cs : List Cause) : (s.failClear c cs).bus = s.bus := rfl
@[simp] theorem State.failClear_pending (c : Cause) (cs : List Cause) : (s.failClear c cs).pending = s.pending := rfl

end Sys2Proof.Machine
end

