-- ==== Sys2Proof/Laws/Ops.lean ====
section
/-! SUPPORT. What each shared operation can do, said once: the two kinds of command, the tables, the hand-over, the changes
handed on, the chain of transitions, taking causes and clearing. -/

namespace Sys2Proof.Machine

/-! ## Commands while no reset is held, and while one is -/

theorem State.whenRunning_running (s : State) (f : State → State) (h : s.start.resetHeld = false) :
    s.whenRunning f = .next (f s) := by simp [State.whenRunning, h]

theorem State.whenRunning_held (s : State) (f : State → State) (h : s.start.resetHeld = true) :
    s.whenRunning f = .next s := by simp [State.whenRunning, h]

theorem State.onEvent_running (s : State) (t : Time) (f : State → State) (h : s.start.resetHeld = false) :
    s.onEvent t f = .next (f (s.tick t)) := s.whenRunning_running _ h

theorem State.onEvent_held (s : State) (t : Time) (f : State → State) (h : s.start.resetHeld = true) :
    s.onEvent t f = .next s := s.whenRunning_held _ h

theorem State.onFilter_running (s : State) (t : Time) (since : Option Time) (filter : Time) (f : State → State)
    (h : s.start.resetHeld = false) :
    s.onFilter t since filter f = .next (f (s.tick (max t (since.getD 0 + filter)))) := s.onEvent_running _ _ h

theorem State.onFilter_held (s : State) (t : Time) (since : Option Time) (filter : Time) (f : State → State)
    (h : s.start.resetHeld = true) : s.onFilter t since filter f = .next s := s.onEvent_held _ _ h

theorem State.onTimer_running (s : State) (due : Time) (f : Time → State → State) (h : s.start.resetHeld = false) :
    s.onTimer (some due) f = .next (f due (s.tick due)) := s.whenRunning_running _ h

theorem State.onTimer_stopped (s : State) (f : Time → State → State) : s.onTimer none f = .next s := by
  cases h : s.start.resetHeld <;> simp [State.onTimer, State.whenRunning, h]

theorem State.onTimer_held (s : State) (timer : Option Time) (f : Time → State → State)
    (h : s.start.resetHeld = true) : s.onTimer timer f = .next s := s.whenRunning_held _ h

/-! ## Tables -/

section Tables

variable {α β : Type}

theorem Table.get_of_range (t : Vector α 24) (n : Nat) (h : 1 ≤ n ∧ n ≤ 24) :
    Table.get t n = some (t[n - 1]'(by omega)) := by simp [Table.get, h]

theorem Table.get_put_same (t : Vector α 24) (n : Nat) (x : α) (h : 1 ≤ n ∧ n ≤ 24) :
    Table.get (Table.put t n x) n = some x := by simp [Table.get, Table.put, h]

theorem Table.get_put_other (t : Vector α 24) (n m : Nat) (x : α) (h : m ≠ n) :
    Table.get (Table.put t n x) m = Table.get t m := by
  unfold Table.get Table.put
  split
  · split
    · have : n - 1 ≠ m - 1 := by omega
      simp [this]
    · rfl
  · rfl

theorem Table.toList_map (f : α → β) (t : Vector α 24) : (Table.map f t).toList = t.toList.map f := by
  simp [Table.map, Vector.toList]

theorem Table.get_map (f : α → β) (t : Vector α 24) (n : Nat) :
    Table.get (Table.map f t) n = (Table.get t n).map f := by
  unfold Table.get
  split
  · simp [Table.map, Vector.getElem_mk]
  · rfl

theorem Table.toList_put (t : Vector α 24) (n : Nat) (x : α) (h : 1 ≤ n ∧ n ≤ 24) :
    (Table.put t n x).toList = t.toList.set (n - 1) x := by
  simp [Table.put, h, Vector.set, Vector.toList]

theorem Table.put_out_of_range (t : Vector α 24) (n : Nat) (x : α) (h : ¬(1 ≤ n ∧ n ≤ 24)) :
    Table.put t n x = t := by simp only [Table.put, h, dif_neg, not_false_eq_true]

theorem Table.get_mem (t : Vector α 24) (n : Nat) (x : α) (h : Table.get t n = some x) : x ∈ t.toList := by
  unfold Table.get at h
  split at h
  · cases h; simp
  · cases h

end Tables

/-! ## The drive unit -/

theorem Drive.handOver_sameDirection (d : Drive) (dMin : Nat) (x : Int) (c : Nat) :
    (d.handOver dMin x c d.direction).applied = (if d.brake = .released then c else 0) := by simp [Drive.handOver]

theorem Drive.handOver_otherDirection (d : Drive) (dMin : Nat) (x : Int) (c : Nat) (dir : Direction)
    (h : d.direction ≠ dir) :
    (d.handOver dMin x c dir).applied = 0 ∧ (d.handOver dMin x c dir).stall = 0 := by simp [Drive.handOver, h]

/-- What a hand-over leaves: the copy and the direction are the engine's, the brake, its timers and the creep reference
stand. -/
theorem Drive.handOver_spec (d : Drive) (dMin : Nat) (x : Int) (c : Nat) (dir : Direction) :
    (d.handOver dMin x c dir).commandedCopy = c ∧ (d.handOver dMin x c dir).direction = dir
      ∧ (d.handOver dMin x c dir).brake = d.brake ∧ (d.handOver dMin x c dir).releaseTimer = d.releaseTimer
      ∧ (d.handOver dMin x c dir).setDelay = d.setDelay
      ∧ (d.handOver dMin x c dir).creepReference = d.creepReference
      ∧ (d.handOver dMin x c dir).applied ≤ c
      ∧ (d.brake ≠ .released → (d.handOver dMin x c dir).applied = 0) := by
  unfold Drive.handOver
  split
  · rename_i h; simp only [h, true_and]; split <;> simp_all
  · simp_all

/-- Entering HALTED sets the brake and takes the creep reference, whatever the brake was doing. -/
theorem Drive.stateChange_halted (d : Drive) (now rt : Time) (x : Int) (old : StationState) :
    d.stateChange now rt x old .halted = { d.setBrake with creepReference := x } := by simp [Drive.stateChange]

/-! ## A change of state handed on -/

theorem State.handOn_same (s : State) : s.handOn s.ctrl.state = s := by simp [State.handOn]

/-- A change handed on touches the engine, the drive unit, the counters and the bus interface alone. -/
theorem State.handOn_frame (s : State) (old : StationState) :
    (s.handOn old).now = s.now ∧ (s.handOn old).start = s.start ∧ (s.handOn old).peers = s.peers
      ∧ (s.handOn old).request = s.request ∧ (s.handOn old).ctrl = s.ctrl ∧ (s.handOn old).halt = s.halt
      ∧ (s.handOn old).pending = s.pending := by
  unfold State.handOn
  dsimp only
  split
  · simp
  · split <;> simp

/-- Of the measurement unit, a change handed on touches the three counters alone. -/
theorem State.handOn_meas (s : State) (old : StationState) :
    (s.handOn old).meas = if s.ctrl.state = old then s.meas else s.meas.stateChange old s.ctrl.state := by
  unfold State.handOn
  dsimp only
  split
  · rfl
  · split <;> rfl

theorem State.handOn_engine (s : State) (old : StationState) :
    (s.handOn old).engine = if s.ctrl.state = old then s.engine
      else s.engine.stateChange (s.start.ceiling s.ctrl.state) (s.ctrl.state.motion s.ctrl.jogDirection) := by
  unfold State.handOn
  dsimp only
  split
  · rfl
  · split <;> rfl

theorem State.handOn_bus (s : State) (old : StationState) :
    (s.handOn old).bus = if s.ctrl.state ≠ old ∧ asksPrompt old s.ctrl.state = true
      then s.bus.askPrompt s.now s.ctrl.state.period (old == .parked || s.ctrl.state == .parked) else s.bus := by
  unfold State.handOn
  dsimp only
  split
  · simp_all
  · split <;> simp_all

/-- A state change keeps the stroke, the load and every measured value. -/
theorem Measurement.stateChange_frame (m : Measurement) (old new : StationState) :
    (m.stateChange old new).stroke = m.stroke ∧ (m.stateChange old new).load = m.load
      ∧ (m.stateChange old new).velocity = m.velocity ∧ (m.stateChange old new).ring = m.ring
      ∧ (m.stateChange old new).latchedStroke = m.latchedStroke
      ∧ (m.stateChange old new).missCount = m.missCount ∧ (m.stateChange old new).silent = m.silent
      ∧ (m.stateChange old new).overload = m.overload
      ∧ (m.stateChange old new).overloadCount = m.overloadCount := by
  simp [Measurement.stateChange]

/-! ## The chain of transitions -/

/-- One transition touches the state controller, the member marks and the request table alone. -/
theorem State.chainStep_frame (s : State) :
    s.chainStep.now = s.now ∧ s.chainStep.start = s.start ∧ s.chainStep.meas = s.meas
      ∧ s.chainStep.engine = s.engine ∧ s.chainStep.drive = s.drive ∧ s.chainStep.halt = s.halt
      ∧ s.chainStep.bus = s.bus ∧ s.chainStep.pending = s.pending := by
  unfold State.chainStep State.enterReady
  repeat' split
  all_goals simp

/-- The chain touches the state controller, the member marks and the request table alone. -/
theorem State.chain_frame (s : State) :
    s.chain.now = s.now ∧ s.chain.start = s.start ∧ s.chain.meas = s.meas ∧ s.chain.engine = s.engine
      ∧ s.chain.drive = s.drive ∧ s.chain.halt = s.halt ∧ s.chain.bus = s.bus ∧ s.chain.pending = s.pending := by
  simp only [State.chain, State.chainStep_frame, and_self]

/-- START, CONFIG_FAULT and HALTED take no transition. -/
theorem State.chainStep_resting (s : State) (h : s.ctrl.state.isResting = true) : s.chainStep = s := by
  unfold State.chainStep
  cases hs : s.ctrl.state <;> simp_all [StationState.isResting]

theorem State.chain_resting (s : State) (h : s.ctrl.state.isResting = true) : s.chain = s := by
  simp only [State.chain, s.chainStep_resting h]

/-! ## Settling -/

theorem State.settleFrom_frame (s : State) (old : StationState) :
    (s.settleFrom old).now = s.now ∧ (s.settleFrom old).start = s.start
      ∧ (s.settleFrom old).pending = s.pending ∧ (s.settleFrom old).ctrl.state = s.chain.ctrl.state
      ∧ (s.settleFrom old).peers = s.chain.peers ∧ (s.settleFrom old).request = s.chain.request := by
  simp only [State.settleFrom, State.refresh_now, State.refresh_start, State.refresh_pending, State.refresh_ctrl,
    State.refresh_peers, State.refresh_request, State.handOn_frame, State.chain_frame, and_self]

theorem State.settleFrom_measured (s : State) (old : StationState) :
    (s.settleFrom old).meas.stroke = s.meas.stroke ∧ (s.settleFrom old).meas.load = s.meas.load := by
  simp only [State.settleFrom, State.refresh_meas, State.handOn_meas]
  split <;> simp only [State.chain_frame, Measurement.stateChange_frame, and_self]

theorem State.settleFrom_halt (s : State) (old : StationState) :
    (s.settleFrom old).halt.causes = s.halt.causes ∧ (s.settleFrom old).halt.first = s.halt.first
      ∧ (s.settleFrom old).halt.grace = s.halt.grace := by
  simp only [State.settleFrom, State.refresh_halt, State.handOn_frame, State.chain_frame, and_self]

/-! ## Taking causes -/

/-- A cause set takes in every cause of an event and loses none. -/
theorem Cause.mem_insert (c d : Cause) (set : List Cause) : d ∈ c.insert set ↔ d = c ∨ d ∈ set := by
  induction set with
  | nil => simp [Cause.insert]
  | cons e rest ih =>
    unfold Cause.insert
    split
    · simp
    · split
      · rename_i h
        have : c = e := by revert h; cases c <;> cases e <;> simp [Cause.code]
        subst this; simp
      · simp [ih]; tauto

theorem Cause.mem_insertAll (cs : List Cause) (d : Cause) (set : List Cause) :
    d ∈ Cause.insertAll cs set ↔ d ∈ cs ∨ d ∈ set := by
  unfold Cause.insertAll
  induction cs generalizing set with
  | nil => simp
  | cons c rest ih => simp [ih, Cause.mem_insert]; tauto

/-- What taking an event can do: nothing, for an event without causes or in START and CONFIG_FAULT; more causes, in HALTED;
or an entry to HALTED. -/
theorem State.takeCauses_cases (s : State) (causes : List Cause) (origin : Nat) :
    ((causes = [] ∨ s.ctrl.state.isOperating = false) ∧ s.takeCauses causes origin = s)
      ∨ (causes ≠ [] ∧ s.ctrl.state = .halted ∧ s.takeCauses causes origin = s.addCauses causes)
      ∨ (∃ c ∈ causes, s.ctrl.state.isOperating = true ∧ s.ctrl.state ≠ .halted
          ∧ (s.takeCauses causes origin).ctrl.state = .halted
          ∧ (s.takeCauses causes origin).halt.causes = Cause.insertAll causes s.halt.causes
          ∧ (s.takeCauses causes origin).halt.first = some { cause := c, origin := s.originOf c origin }) := by
  unfold State.takeCauses
  have hm := Cause.mem_insertAll causes
  split
  · rename_i h
    refine .inl ⟨.inl ?_, rfl⟩
    cases causes with
    | nil => rfl
    | cons c rest => have := (hm c []).2 (.inl (by simp)); simp [h] at this
  · rename_i c rest h
    have hc : c ∈ causes := by have := (hm c []).1 (by simp [h]); simpa using this
    split
    · rename_i ho; exact .inl ⟨.inr (by simpa using ho), rfl⟩
    · rename_i ho
      split
      · rename_i hh; exact .inr (.inl ⟨by rintro rfl; simp at hc, hh, rfl⟩)
      · rename_i hh
        refine .inr (.inr ⟨c, hc, by simpa using ho, hh, ?_⟩)
        simp [State.handOn_frame]

/-- Taking causes keeps the clock, the configuration, the tables and the queue. -/
theorem State.takeCauses_frame (s : State) (causes : List Cause) (origin : Nat) :
    (s.takeCauses causes origin).now = s.now ∧ (s.takeCauses causes origin).start = s.start
      ∧ (s.takeCauses causes origin).peers = s.peers ∧ (s.takeCauses causes origin).request = s.request
      ∧ (s.takeCauses causes origin).pending = s.pending
      ∧ (s.takeCauses causes origin).ctrl.assembled = s.ctrl.assembled
      ∧ (s.takeCauses causes origin).ctrl.contact = s.ctrl.contact
      ∧ (s.takeCauses causes origin).meas.stroke = s.meas.stroke
      ∧ (s.takeCauses causes origin).meas.load = s.meas.load := by
  unfold State.takeCauses
  split
  · simp
  · split
    · simp
    · split
      · simp
      · simp only [State.refresh_now, State.refresh_start, State.refresh_peers, State.refresh_request,
          State.refresh_pending, State.refresh_ctrl, State.refresh_meas, State.handOn_frame, State.handOn_meas]
        refine ⟨rfl, rfl, rfl, rfl, rfl, rfl, rfl, ?_, ?_⟩ <;> split <;> rfl

/-! ## Clearing -/

/-- A CLEAR outside HALTED does nothing (R118). -/
theorem State.clearAttempt_ignored (s : State) (h : s.ctrl.state ≠ .halted) : s.clearAttempt = s := by
  simp [State.clearAttempt, h]

/-- A clear attempt that leaves causes stays in HALTED with them (R120). -/
theorem State.clearAttempt_fails (s : State) (c : Cause) (rest : List Cause) (h : s.ctrl.state = .halted)
    (hc : s.remainingCauses = c :: rest) : s.clearAttempt = s.failClear c (c :: rest) := by
  simp [State.clearAttempt, h, hc]

/-- A clear attempt that leaves none empties the cause set and starts the grace (R121). -/
theorem State.clearAttempt_succeeds (s : State) (h : s.ctrl.state = .halted) (hc : s.remainingCauses = []) :
    s.clearAttempt.halt.causes = [] ∧ s.clearAttempt.halt.first = none
      ∧ s.clearAttempt.halt.grace = some (s.now + Timing.clearGrace) := by
  simp only [State.clearAttempt, h, hc, if_true, State.settleFrom_halt]
  unfold State.returnFromHalt State.enterReady
  repeat' split
  all_goals simp

/-! ## The converter port -/

/-- The free values keep the order R38 gives: the first clock, the 16 periods, the release, the read's end. -/
theorem converterRelease_bounds (due : Time) :
    converterFirstClock due + 16 ≤ converterRelease due ∧ converterRelease due ≤ 20 := by
  have h := (Config.converterLead due).isLt
  unfold converterRelease converterFirstClock Timing.converterClocks Timing.converterClock Timing.converterRead Time
  omega

theorem Measurement.port_released (m : Measurement) (t : Time) (h : m.converterRead = none) :
    m.selectLine t = false ∧ m.clockPeriod t = none := by
  simp [Measurement.selectLine, Measurement.clockPeriod, h]

/-- All that the port's lines do in a read: by the microseconds since its beginning. -/
theorem Measurement.port_reading (m : Measurement) (began x : Time) (h : m.converterRead = some (began + 20)) :
    m.selectLine (began + x) = decide (x < converterRelease (began + 20))
      ∧ m.clockPeriod (began + x)
        = (if converterFirstClock (began + 20) ≤ x ∧ x < converterFirstClock (began + 20) + 16
            then some (x - converterFirstClock (began + 20)) else none) := by
  constructor
  · simp only [Measurement.selectLine, h, Option.any_some, Timing.converterRead]
    refine decide_eq_decide.mpr ?_
    unfold Time at *
    omega
  · simp only [Measurement.clockPeriod, h, Option.bind_some, Timing.converterRead, Timing.converterClocks,
      Timing.converterClock, Nat.div_one]
    unfold Time at *
    split <;> split <;> first | rfl | (congr 1; omega)

/-! ## The transmit queue -/

/-- The bus interface's entry operations keep the attempt, the retry offset and the line. -/
theorem Bus.askPrompt_frame (b : Bus) (now : Time) (p : PeriodClass) (r : Bool) :
    (b.askPrompt now p r).attempt = b.attempt ∧ (b.askPrompt now p r).retryOffset = b.retryOffset
      ∧ (b.askPrompt now p r).idleFrom = b.idleFrom ∧ (b.askPrompt now p r).promptSpent = b.promptSpent
      ∧ (b.askPrompt now p r).motion = b.motion ∧ (b.askPrompt now p r).clear = b.clear
      ∧ (b.askPrompt now p r).pendingMotion = b.pendingMotion := by
  unfold Bus.askPrompt Bus.judgePrompt Bus.beginWait Bus.restartTimer
  repeat' split
  all_goals simp

theorem Bus.scheduleReport_frame (b : Bus) (now : Time) :
    (b.scheduleReport now).attempt = b.attempt ∧ (b.scheduleReport now).retryOffset = b.retryOffset
      ∧ (b.scheduleReport now).promptSpent = b.promptSpent ∧ (b.scheduleReport now).motion = b.motion
      ∧ (b.scheduleReport now).clear = b.clear ∧ (b.scheduleReport now).reportTimer = b.reportTimer := by
  unfold Bus.scheduleReport Bus.beginWait
  repeat' split
  all_goals simp

/-! ## The line and the receiver -/

theorem readCharacter_some (levels : BitVec 9) (h : levels.getLsbD 8 = true) :
    readCharacter levels = some (levels.extractLsb' 0 8) := if_pos h

theorem readCharacter_framingError (levels : BitVec 9) (h : levels.getLsbD 8 = false) : readCharacter levels = none := by
  unfold readCharacter
  rw [h]
  rfl

theorem characterLevels_length (b : Byte) : (characterLevels b).length = 10 := by simp [characterLevels]

theorem frameLevels_length (chars : List Byte) : (frameLevels chars).length = 10 * chars.length := by
  induction chars with
  | nil => rfl
  | cons c cs ih => simp [frameLevels, characterLevels_length] at ih ⊢; omega

/-- All that seeing a start bit can do: the receiver and the idle measure, which never comes earlier. -/
theorem Bus.startBit_spec (b : Bus) (now : Time) (levels : BitVec 9) (held : Time) :
    b.startBit now levels held =
      { b with receiver := b.receiverAt now (readCharacter levels), idleFrom := (b.startBit now levels held).idleFrom }
      ∧ b.idleFrom ≤ (b.startBit now levels held).idleFrom := ⟨rfl, Nat.le_max_left _ _⟩

/-- All that the end of an attempt can do to the line: it is released, and the idle measure never comes earlier. -/
theorem Bus.endAttempt_spec (b : Bus) (receiver : Receiver) (idleFrom : Time) :
    b.endAttempt receiver idleFrom =
      { b with attempt := none, receiver := receiver, idleFrom := (b.endAttempt receiver idleFrom).idleFrom }
      ∧ b.idleFrom ≤ (b.endAttempt receiver idleFrom).idleFrom := ⟨rfl, Nat.le_max_left _ _⟩

/-- A frame starts only at a character of value A5h after at least 12 bit times of idle. -/
theorem Bus.receiverAt_starts (b : Bus) (now : Time) (character : Option Byte) (h : b.receiver ≠ .takingFrame)
    (ht : b.receiverAt now character = .takingFrame) :
    b.idleFrom + Timing.frameIdle ≤ now ∧ character = some startCharacter := by
  unfold Bus.receiverAt at ht
  split at ht
  · cases ht
  · split at ht
    · exact absurd (And.left ‹_›) h
    · split at ht
      · exact ⟨And.left ‹_›, congrArg some (And.right ‹_›)⟩
      · cases ht

theorem State.received_taken (s : State) (chars : List Byte) (h : s.bus.takesFrame s.now chars = true) :
    s.received chars = receive chars := by simp [State.received, h]

theorem State.received_ignored (s : State) (chars : List Byte) (h : s.bus.takesFrame s.now chars = false) :
    s.received chars = none := by simp [State.received, h]

theorem State.examineReport_of_none (s : State) (r : ReportFields) (h : r.content = none) : s.examineReport r = s := by
  simp [State.examineReport, h]

end Sys2Proof.Machine
end

