-- ==== Sys2Proof/Tests/Slice0.lean ====
section
/-! SUPPORT. Own tests. Expected values are the spec's worked cases where it has one (named in the comments) and hand
calculation from a rule elsewhere. The witnesses show, for each statement with hypotheses, a state and operands that meet
them all. -/

namespace Sys2Proof.Tests

open Sys2Proof.Machine

/-! ## Well-formedness: a command that each check refuses -/

theorem test_wf_report_short : (Instr.reportFrame 0 [0xA5#8]).wellFormed = false := by decide
theorem test_wf_raise_code : (Instr.raiseFrame 0 [0xA5#8, 0x4C#8, 0#8, 1#8, 2#8, 0#8, 0#8]).wellFormed = false := by decide
theorem test_wf_lower_code : (Instr.lowerFrame 0 [0xA5#8, 0x4C#8, 0#8, 1#8, 1#8, 0#8, 0#8]).wellFormed = false := by decide
theorem test_wf_clear_length : (Instr.clearFrame 0 [0xA5#8, 0x4C#8, 0#8, 1#8, 3#8, 0#8]).wellFormed = false := by decide
theorem test_wf_other_code :
    (Instr.requestFrameOtherCode 0 [0xA5#8, 0x4C#8, 0#8, 1#8, 3#8, 0#8, 0#8]).wellFormed = false := by decide
theorem test_wf_slot_zero : (Instr.slotWindowExpiry 0).wellFormed = false := by decide
theorem test_wf_stale_25 : (Instr.staleDeadlineExpiry 25).wellFormed = false := by decide
theorem test_wf_contest_zero : (Instr.contestDeadlineExpiry 0).wellFormed = false := by decide
theorem test_wf_abandon_21 : (Instr.attemptAbandoned ⟨21, 0⟩).wellFormed = false := by decide
theorem test_wf_raise_good :
    (Instr.raiseFrame 0 [0xA5#8, 0x4C#8, 0x0C#8, 0xEB#8, 1#8, 0#8, 0#8]).wellFormed = true := by decide
theorem test_wf_numbers_good : ((Instr.slotWindowExpiry 24).wellFormed && (Instr.attemptAbandoned ⟨20, 5⟩).wellFormed) = true := by decide

/-- No row of the table has bits, so no word spells a command. -/
theorem test_no_word_is_a_command : decodeTableWord 8 0xA5 = none := rfl

/-! ## Layouts (chapter 12) -/

/-- R200: the CRC of "123456789" is 29B1h. -/
theorem test_crc_check_value :
    crc16 [0x31#8, 0x32#8, 0x33#8, 0x34#8, 0x35#8, 0x36#8, 0x37#8, 0x38#8, 0x39#8] = 0x29B1#16 := by decide +kernel

/-- The report of 12.1's example. -/
def haltReport : ReportFields :=
  { station := 7, unitNumber := 4410, stateCode := 11, slow := false, prompt := true, fresh := false, liftPresent := true,
    supplyLow := false, upperEnd := false, lowerEnd := false, conflict := false, safety := false, motion := true,
    group := false, clashOrSurplus := false, bodyIndex := 0, reserved := 0, startCause := 0, digest := 0x6C1E,
    lift := 15210, velocity := BitVec.ofInt 16 (-3), load := 1318, firstCause := 9, origin := 7 }

/-- 12.1's example, byte by byte. -/
theorem test_report_bytes :
    haltReport.body = [0x27#8, 0x11#8, 0x3A#8, 0xAB#8, 0x20#8, 0x00#8, 0x6C#8, 0x1E#8, 0x00#8, 0x3B#8, 0x6A#8, 0xFF#8,
      0xFD#8, 0x05#8, 0x26#8, 0x09#8, 0x07#8] := by decide

/-- The same bytes read back. -/
theorem test_report_content :
    haltReport.content = some
      { unitNumber := 4410, state := .halted, period := .fast, fresh := false, bodyIndex := 0, digest := 0x6C1E,
        lift := some 15210, velocity := -3, firstCause := some (.spreadSet, 7) } := by decide

/-- R57: a first cause outside HALTED is malformed. -/
theorem test_report_malformed : ({ haltReport with stateCode := 6 } : ReportFields).content = none := by decide

/-- 12.2's example: station 12, unit 3307, RAISE. -/
theorem test_request_bytes :
    ({ station := 12, unitNumber := 3307, code := 1 } : RequestFields).body = [0x4C#8, 0x0C#8, 0xEB#8, 0x01#8] := by decide

/-- R172: a changed byte is discarded. -/
theorem test_bad_crc_is_discarded : receive ([0xA5#8, 0x4C#8, 0x0C#8, 0xEB#8, 0x02#8] ++
    ({ station := 12, unitNumber := 3307, code := 1 } : RequestFields).chars.drop 5) = none := by decide +kernel

/-- The checked bytes 0..32 of an option block (R199), with the values of the spec's examples: N 4, W 300, S_body 400,
S_set 900, v_raise 800, v_lower 600, d_min 60, R 60, seat speed 200, park delay 30, DERATE, creep 50, unseat 500, body 0,
full scale 2000, zero 30, contact 150, release 60, overload 1800, brake release 15. -/
def blockBody (dMin seat : Byte) : List Byte :=
  [0x41#8, 4#8, 0x01#8, 0x2C#8, 0x01#8, 0x90#8, 0x03#8, 0x84#8, 0x03#8, 0x20#8, 0x02#8, 0x58#8, dMin, 60#8, seat, 30#8,
    0#8, 0#8, 50#8, 0x01#8, 0xF4#8, 0#8, 0x07#8, 0xD0#8, 0#8, 30#8, 0#8, 150#8, 0#8, 60#8, 0x07#8, 0x08#8, 15#8]

/-- An option block with its CRC. -/
def block (dMin seat : Byte) : List Byte :=
  blockBody dMin seat ++ [highByte (crc16 (blockBody dMin seat)), lowByte (crc16 (blockBody dMin seat))]

/-- The options of that block. -/
def options : Options :=
  { n := 4, window := 300, spreadBody := 400, spreadSet := 900, vRaise := 800, vLower := 600, dMin := 60, ramp := 60,
    seatSpeed := 200, parkDelay := 30, policy := .derate, creepLimit := 50, unseatLift := 500, bodyIndex := 0,
    fullScale := 2000, zero := 30, contactThreshold := 150, releaseThreshold := 60, overloadLimit := 1800,
    brakeReleaseTime := 15 }

theorem test_block_reads : readOptions (block 60 200) = some options := by decide +kernel

/-- 10.8's second example: d_min 70 with seat speed 120 lies above 60; with seat speed 140 it does not. -/
theorem test_block_d_min_range : readOptions (block 70 120) = none ∧ (readOptions (block 70 140)).isSome = true := by decide +kernel

/-- The option port's data line over a read: the bytes of a block, the most significant bit first. -/
def dataLine (bytes : List Byte) : BitVec 280 := BitVec.ofNat 280 (bytes.foldl (fun n b => n * 256 + b.toNat) 0)

/-- R190: the first bit clocked in is the most significant of byte 0. -/
theorem test_option_bits : blockOf (dataLine (block 60 200)) = block 60 200
    ∧ (blockOf (1#280 <<< 279)).head? = some 0x80#8 ∧ (blockOf 1#280).getLast? = some 0x01#8 := by decide +kernel

/-- R190: a memory that does not answer leaves the data line at 1 and reads as 35 bytes of FFh. -/
theorem test_block_absent : blockOf (BitVec.allOnes 280) = List.replicate 35 0xFF#8
    ∧ readOptions (blockOf (BitVec.allOnes 280)) = none := by decide +kernel

/-- R190: 03h, then 00h; the most significant bit of each first (log entry 26). -/
theorem test_option_request : optionRequest = [false, false, false, false, false, false, true, true]
    ++ List.replicate 8 false := by decide

/-! ## The line (R170) -/

/-- A5h is 1010 0101: the start bit, then 1, 0, 1, 0, 0, 1, 0, 1 from the least significant, then the stop bit. -/
theorem test_character_levels : characterLevels 0xA5#8
    = [.drive, .idle, .drive, .idle, .drive, .drive, .idle, .drive, .idle, .idle] := by decide

/-- 9.8's first example: one part sends 11h, the other 14h, and the line carries 10h. -/
theorem test_collision : List.zipWith (fun a b => lineLevel [a, b]) (characterLevels 0x11#8) (characterLevels 0x14#8)
    = characterLevels 0x10#8 := by decide

/-- The character A5h as it is read, and with its stop bit at the drive level. -/
theorem test_read_character : readCharacter 0x1A5#9 = some 0xA5#8 ∧ readCharacter 0x0A5#9 = none := by decide

/-! ## Worked computations -/

/-- 2.3's example: the ring and the velocity. -/
theorem test_velocity :
    (pushRing #v[40032, 40040, 40048, 40056, 40064, 40072, 40080, 40088, 40096, 40104, 40112] true 40120).toList
        = [40040, 40048, 40056, 40064, 40072, 40080, 40088, 40096, 40104, 40112, 40120]
      ∧ ringVelocity #v[40040, 40048, 40056, 40064, 40072, 40080, 40088, 40096, 40104, 40112, 40120] = 80 := by decide

/-- 2.5's worked cases. -/
theorem test_load_scaling :
    [2730, 2745, 30, 12, 4095].map (scaleLoad 30 2000) = [1318, 1326, 0, 0, 1985] ∧ scaleLoad 0 4000 4095 = 4000 := by decide

/-- R39: sample 1 at 1 misses the framing mark, sample 2 at 0 the ready indication; samples 15 and 16 are not examined. -/
theorem test_converter_reply :
    sortReply 0xC000#16 = .miss ∧ sortReply 0x0004#16 = .miss ∧ sortReply 0x4007#16 = .good 1 := by decide

/-- 4.2's worked computation: predictions at their limits. -/
theorem test_predictions :
    predictedLift 16400 (-37) 15 = 16395 ∧ predictedLift 3 (-200) 20 = 0 ∧ predictedLift 26000 3 (ageMs 740000 0) = 26003
      ∧ predictedLift 199990 120 14 = 200000 := by decide

/-- 4.5's worked computation: raising. -/
theorem test_raising :
    reference .up 15210 [15056, 15181, 15302] = 15056 ∧ lead .up 15210 15056 = 154 ∧ leadDemand options 800 154 = 389
      ∧ ramp 60 300 389 = 360 ∧ leadDemand options 800 299 = 60 ∧ leadDemand options 800 300 = 0 ∧ ramp 60 300 60 = 60 := by
  decide

/-- 4.5's worked computation: lowering under derate. -/
theorem test_lowering :
    reference .down 8400 [8520, 8460, 8390] = 8520 ∧ lead .down 8400 8520 = 120 ∧ leadDemand options 300 120 = 180
      ∧ ramp 40 150 180 = 180 := by decide

/-- 9.8's first example: gaps and retry offsets. -/
theorem test_access :
    [3, 7, 12, 24].map accessGap = [28, 36, 46, 70] ∧ retryOffset 4410 1 = 2 ∧ retryOffset 5127 1 = 28 := by decide

/-- 10.8's second example: the straps of weights 4 and 8. -/
theorem test_straps : strapNumber 0b01100#5 = 12 := by decide

/-! ## A station in a group of two -/

/-- A member's report content. -/
def peerContent (st : StationState) : Content :=
  { unitNumber := 3307, state := st, period := .fast, fresh := false, bodyIndex := 0, digest := 0x6C1E, lift := none,
    velocity := 0, firstCause := none }

/-- The member's entry: last scheduled arrival 1000.0 ms (1,000,000 µs). -/
def peer (st : StationState) : Entry :=
  { status := .fresh, content := some (peerContent st), lastArrival := some 1000000, lastScheduled := some 1000000,
    staleDeadline := some 1060000, member := true, early := false, allowance := .available, faulty := false,
    contested := false, contestDeadline := none }

/-- Station 7, unit 4410, assembled with member 12, at 1001 ms in a state. -/
def station (st : StationState) : State :=
  { State.reset with
    now := 1001000
    start := { State.reset.start with
      holdOff := none, strapReading := some 7, stationNumber := some 7, unitNumber := 4410,
      config := some { options with n := 2 }, digest := some 0x6C1E }
    meas := { State.reset.meas with
      stroke := 30000, sampleTimer := some 1003000, converterRead := some 1001010
      contact := ⟨5, st == .seating⟩, release := ⟨5, st == .unseating⟩, unseat := ⟨5, st.isSeated⟩ }
    engine := { State.reset.engine with controlTimer := some 1005000 }
    drive := { State.reset.drive with creepReference := 30000 }
    peers := { State.reset.peers with entries := Table.put State.reset.peers.entries 12 (peer .holding) }
    request := { State.reset.request with
      raiseKey := ⟨false, false, some 0⟩, lowerKey := ⟨false, false, some 0⟩, resetKey := ⟨false, false, some 0⟩ }
    ctrl := { state := st, jogDirection := .up, assembled := true,
              contact := if st.hasContact then some 29000 else none, fresh := false,
              parkTimer := if st = .holding then some 31000000 else none, readyLamp := st != .halted }
    bus := { State.reset.bus with reportTimer := some ⟨1010000, .fast⟩ } }

/-- The state after a command. -/
def after (c : Instr) (s : State) : State :=
  match exec c s with
  | .next t => t
  | _ => s

/-- A report of the member. -/
def memberReport (unit : Word16) (stateCode : BitVec 4) (firstCause origin : Byte) : ReportFields :=
  { haltReport with
    station := 12, unitNumber := unit, stateCode := stateCode, prompt := false, liftPresent := false, motion := false,
    velocity := 0, load := 0, firstCause := firstCause, origin := origin }

/-- A request frame of the member. -/
def memberRequest (code : Byte) : RequestFields := { station := 12, unitNumber := 3307, code := code }

/-- The station with a request in slot 12. -/
def asked (k : RequestKind) (s : State) : State := s.putSlot 12 (some { kind := k, stamp := 1000000 })

/-! ## Commands, one or two tests each -/

theorem test_resetOnset : (after (.resetOnset 1002000 .resetPin) (station .lifting)).ctrl.state = .start
    ∧ (after (.resetOnset 1002000 .resetPin) (station .lifting)).start.unitNumber = 4410 := by decide
/-- 10.8: the second reset did not see POWER_ON, so the start cause is RESET_PIN; the hold-off runs 200 ms. -/
theorem test_resetEnd :
    (after (.resetEnd 120040 Config.quietInputs) (after (.resetOnset 120010 .resetPin) State.reset)).start.startCause
        = .resetPin
      ∧ (after (.resetEnd 120040 Config.quietInputs) (after (.resetOnset 120010 .resetPin) State.reset)).start.holdOff
        = some 320040 := by decide
/-- R190: a reset during the option read abandons it and releases the select line. -/
theorem test_option_read_abandoned :
    (let s := { State.reset with start := { State.reset.start with holdOff := none, optionRead := some 201184 } }
     s.start.selectLine = true ∧ (after (.resetOnset 200100 .brownOut) s).start.selectLine = false) := by decide
/-- 10.8: the option read takes 1.184 ms. -/
theorem test_holdOffExpiry :
    (after (.holdOffExpiry 0b10100#5) { State.reset with start := { State.reset.start with holdOff := some 320040 } }).start.optionRead
      = some 321224 := by decide
/-- The station with its option read ending. -/
def reading (n : Nat) : State :=
  { State.reset with start := { State.reset.start with holdOff := none, optionRead := some 201184, strapReading := some n } }
theorem test_optionReadEnd_valid : (after (.optionReadEnd (dataLine (block 60 200))) (reading 24)).ctrl.state = .assembling := by decide +kernel
theorem test_optionReadEnd_straps : (after (.optionReadEnd (dataLine (block 60 200))) (reading 25)).ctrl.state = .configFault
    ∧ (after (.optionReadEnd (dataLine (block 60 200))) (reading 25)).start.stationNumber = none := by decide +kernel
/-- R32: (low, low) to (high, low) is forward. -/
theorem test_encoderEdge : (after (.encoderEdge 1001001 true false) (station .holding)).meas.stroke = 30001 := by decide
/-- R155: the extreme moves on with a count in the drive's direction, and stays at one against it. -/
theorem test_encoderEdge_extreme :
    (let s := { station .holding with drive := { (station .holding).drive with brake := .released, extreme := some 30000 } }
     (after (.encoderEdge 1001001 true false) s).drive.extreme = some 30001
       ∧ (after (.encoderEdge 1001001 false true) s).drive.extreme = some 30000) := by decide
theorem test_encoderEdge_both : (after (.encoderEdge 1001001 true true) (station .holding)).halt.causes = [.sensor] := by decide
/-- R35: the first expiry comes 13 ms after a reset and fills the ring. -/
theorem test_sampleTimerExpiry : (after .sampleTimerExpiry State.reset).meas.sampleTimer = some 23000
    ∧ (after .sampleTimerExpiry State.reset).meas.velocity = 0 := by decide
/-- R38: the select line is asserted at the expiry and released by the read's end, 20 µs later, or by a reset in between. -/
theorem test_converter_port :
    (after .sampleTimerExpiry State.reset).meas.selectLine (13000 + 0) = true
      ∧ (after .sampleTimerExpiry State.reset).meas.selectLine (13000 + 20) = false
      ∧ (after (.resetOnset 13010 .resetPin) (after .sampleTimerExpiry State.reset)).meas.selectLine 13010 = false := by
  have h : (after .sampleTimerExpiry State.reset).meas.converterRead = some (13000 + 20) := by decide
  have b := converterRelease_bounds (13000 + 20)
  have at0 := (Measurement.port_reading _ 13000 0 h).1
  have at20 := (Measurement.port_reading _ 13000 20 h).1
  refine ⟨?_, ?_, by decide⟩
  · rw [at0]; exact decide_eq_true (Nat.lt_of_lt_of_le (Nat.succ_pos _) b.1)
  · rw [at20]; exact decide_eq_false (Nat.not_lt.mpr b.2)
/-- 2.5's example, read 5: SENSOR at the fifth miss, the load held. -/
theorem test_converterReadEnd_silent :
    (after (.converterReadEnd 0xFFFF#16)
      { station .holding with meas := { (station .holding).meas with load := 1318, missCount := 4 } }).halt.causes = [.sensor] := by
  decide
/-- 2.8's example, read 9: load 241 confirms contact at the latched stroke. -/
theorem test_converterReadEnd_contact :
    (after (.converterReadEnd (BitVec.ofNat 16 (0x4000 + 4 * 525)))
      { station .seating with
        meas := { (station .seating).meas with latchedStroke := 31227, contact := ⟨1, true⟩ }
        request := (asked .raise (station .seating)).request
        peers := { State.reset.peers with entries := Table.put State.reset.peers.entries 12 (peer .seating) } }).ctrl.contact
      = some 31227 := by decide
/-- R94: in JOG upward the load reaches the contact threshold, 150, at the end of a read. -/
theorem test_converterReadEnd_jog :
    (let s := { station .jog with engine := { (station .jog).engine with commanded := 200 } }
     (after (.converterReadEnd (BitVec.ofNat 16 (0x4000 + 4 * 338))) s).engine.commanded = 0
       ∧ (after (.converterReadEnd (BitVec.ofNat 16 (0x4000 + 4 * 336))) s).engine.commanded = 200) := by decide
theorem test_switchFilterChange : (after (.switchFilterChange 1002000 .overtravel true) (station .holding)).halt.causes
    = [.overtravel] := by decide
/-- R47: a switch that turns active turns inactive 5 ms later at the earliest. -/
theorem test_switchFilterChange_filter :
    (after (.switchFilterChange 1002001 .upperEnd false) (after (.switchFilterChange 1002000 .upperEnd true) (station .holding))).now
      = 1007000 := by decide +kernel
/-- 7.6's first example: the first expiry in SEATING commands 60 with the brake RELEASING. -/
theorem test_controlTimerExpiry :
    (after .controlTimerExpiry
      { station .seating with drive := { (station .seating).drive with brake := .releasing, releaseTimer := some 1150000 } }).drive.commandedCopy
      = 60 := by decide
/-- R194: the indication is present 50 ms after the reset's end. -/
theorem test_supplyLowChange : (after (.supplyLowChange 0 true) State.reset).start.supplyLow = true
    ∧ (after (.supplyLowChange 0 true) State.reset).now = 50000 := by decide
/-- 7.6's first example: the whole commanded output is applied at once. -/
theorem test_releaseTimerExpiry :
    (after .releaseTimerExpiry
      { station .seating with drive := { (station .seating).drive with
          brake := .releasing, releaseTimer := some 1150000, commandedCopy := 200 } }).drive.applied = 200 := by decide
theorem test_setDelayExpiry :
    (after .setDelayExpiry
      { station .holding with drive := { (station .holding).drive with
          brake := .released, setDelay := some 1090000, extreme := some 30010, creepReference := 1 } }).drive.creepReference
      = 30000 := by decide
theorem test_keyPress_jog :
    (after (.keyPress 1002000 .lower)
      { station .ready with request := { (station .ready).request with mode := .localMode } }).ctrl.jogDirection = .down := by
  decide
theorem test_keyPress_refused :
    (after (.keyPress 1002000 .raise)
      { station .holding with request := { (station .holding).request with mode := .localMode } }).request.refusedLamp
      = some 1502000 := by decide
/-- The station jogging up with its key held. -/
def jogging : State :=
  { station .jog with
    request := { (station .jog).request with mode := .localMode, raiseKey := ⟨true, false, some 0⟩ }
    drive := { (station .jog).drive with brake := .released, extreme := some 30000 } }
theorem test_keyRelease : (after (.keyRelease 1002000 .raise) jogging).ctrl.state = .ready
    ∧ (after (.keyRelease 1002000 .raise) jogging).drive.setDelay = some 1102000 := by decide +kernel
/-- R126: a key that is pressed at 1002 ms is released 20 ms later at the earliest. -/
theorem test_keyRelease_filter :
    (after (.keyRelease 1002001 .reset) (after (.keyPress 1002000 .reset) (station .ready))).now = 1022000 := by decide +kernel
theorem test_modeChange : (after (.modeChange 1002000 .groupMode) jogging).ctrl.state = .ready
    ∧ (after (.modeChange 1002001 .localMode) (after (.modeChange 1002000 .groupMode) jogging)).now = 1022000 := by decide +kernel
theorem test_pendantPresentChange :
    (after (.pendantPresentChange 1002000 false) jogging).request.raiseKey = ⟨false, false, some 1002000⟩
      ∧ (after (.pendantPresentChange 1002000 false) jogging).ctrl.state = .ready := by decide +kernel
/-- R127: a key is free when it has read RELEASED for 20 ms, the pendant's coming at 1002 ms blocking it. -/
theorem test_keyUnblock : (after (.keyUnblock 20000 .raise) State.reset).request.raiseKey = ⟨false, false, some 20000⟩
    ∧ (let s := { station .holding with request := { (station .holding).request with pendantPresent := false } }
       (after (.keyUnblock 1002000 .raise) (after (.pendantPresentChange 1002000 true) s)).now = 1022000) := by decide +kernel
theorem test_refusedPulseEnd :
    (after .refusedPulseEnd
      { station .holding with request := { (station .holding).request with refusedLamp := some 1500000 } }).request.refusedLit
      = false := by decide
/-- The station with a RAISE sequence running. -/
def sequencing : State :=
  { station .holding with request := { (station .holding).request with sequence := some ⟨.raise, 1020000⟩ } }
theorem test_repeatTimerExpiry :
    (after .repeatTimerExpiry sequencing).request.sequence = some ⟨.raise, 1040000⟩
      ∧ Table.get (after .repeatTimerExpiry sequencing).request.slots 7 = some (some ⟨.raise, 1020000⟩) := by decide
/-- 6.3's example: A's filter completes at 2.0 ms. -/
theorem test_estopChannelChange :
    (after (.estopChannelChange 1002000 .a true) (station .lifting)).halt.first = some ⟨.estop, 7⟩
      ∧ (after (.estopChannelChange 1002000 .a true) (station .lifting)).request.discrepancySince = some 1002000 := by decide
/-- R129: a channel closes after 20 ms CLOSED and opens after 2 ms OPEN. -/
theorem test_estopChannelChange_filter :
    (let opened := after (.estopChannelChange 1002000 .a true) (station .lifting)
     (after (.estopChannelChange 1002001 .a false) opened).now = 1022000
       ∧ (after (.estopChannelChange 1022001 .a true) (after (.estopChannelChange 1002001 .a false) opened)).now = 1024000) := by
  decide +kernel
theorem test_discrepancyLatchSet :
    (after .discrepancyLatchSet
      { station .halted with request := { (station .halted).request with
          estopBOpen := true, discrepancySince := some 5020000 } }).now = 5070000 := by decide
/-- 3.8's second example: 2.0 ms after the last scheduled arrival is early; a second one is a babble. -/
theorem test_reportFrame_early :
    (Table.get (after (.reportFrame 1002000 (memberReport 3307 6 0 0).chars) (station .holding)).peers.entries 12).map Entry.early
      = some true := by decide +kernel
/-- 3.8's first example: a HALTED report raises PEER_HALTED with the origin it carries. -/
theorem test_reportFrame_halted :
    (after (.reportFrame 1020000 (memberReport 3307 11 9 3).chars) (station .holding)).halt.first = some ⟨.peerHalted, 3⟩ := by
  decide +kernel
theorem test_raiseFrame : (after (.raiseFrame 1002000 (memberRequest 1).chars) (station .holding)).ctrl.state = .lifting := by
  decide +kernel
theorem test_lowerFrame : (after (.lowerFrame 1002000 (memberRequest 2).chars) (station .holding)).ctrl.state = .lowering := by
  decide +kernel
/-- The station halted on a creep. -/
def creepHalt : State :=
  { station .halted with
    ctrl := { (station .halted).ctrl with contact := some 29000 }
    halt := { causes := [.creep], first := some ⟨.creep, 7⟩, grace := none, faultLamp := true } }
theorem test_clearFrame : (after (.clearFrame 1002000 (memberRequest 3).chars) creepHalt).ctrl.state = .holding
    ∧ (after (.clearFrame 1002000 (memberRequest 3).chars) creepHalt).halt.grace = some 1062000 := by decide +kernel
/-- 8.6's example: the last slot empties and the park timer runs 30 s. -/
theorem test_slotWindowExpiry :
    (after (.slotWindowExpiry 12)
      (asked .raise { station .holding with ctrl := { (station .holding).ctrl with parkTimer := none } })).ctrl.parkTimer
      = some 31060000 := by decide
theorem test_staleDeadlineExpiry : (after (.staleDeadlineExpiry 12) (station .holding)).halt.causes = [.peerLost] := by decide
/-- The station with entry 12 contested. -/
def contested : State :=
  (station .holding).putEntry 12 { peer .holding with contested := true, contestDeadline := some 2500000 }
theorem test_contestDeadlineExpiry :
    Table.get (after (.contestDeadlineExpiry 12) contested).peers.entries 12 = some (peer .holding) := by decide
theorem test_clashHoldExpiry :
    (after .clashHoldExpiry
      { station .holding with peers := { (station .holding).peers with clashHold := some 4900200 } }).peers.clashHeld = false := by
  decide
theorem test_clearGraceEnd :
    (after .clearGraceEnd { station .holding with halt := { (station .holding).halt with grace := some 1060000 } }).halt.grace
      = none := by decide
/-- 8.6's example: parked, with the report timer restarted at 500 ms. -/
theorem test_parkTimerExpiry :
    (after .parkTimerExpiry (station .holding)).bus.reportTimer = some ⟨31500000, .slow⟩
      ∧ (after .parkTimerExpiry (station .holding)).ctrl.state = .parked := by decide
theorem test_reportTimerExpiry :
    (after .reportTimerExpiry (station .holding)).bus.report = some ⟨false, 1010000, 0⟩ := by decide
/-- The station with a report token waiting since 1001 ms. -/
def waiting : State :=
  { station .holding with bus := { (station .holding).bus with report := some ⟨false, 1001000, 0⟩, accessWait := some 1001000 } }
/-- 9.8: the gap of station 7 is 36 bit times. -/
theorem test_accessGained : (after .accessGained waiting).bus.attempt.map Attempt.began = some 1001036 := by decide
/-- The same station with the report under attempt. -/
def sending : State := after .accessGained waiting
/-- A report takes 200 bit times. -/
theorem test_attemptSent : (after .attemptSent sending).now = 1001236 ∧ (after .attemptSent sending).bus.isEmpty = true := by
  decide
/-- 9.8's first example: abandoned at the third character, 30 bit times after the start; offset 2. -/
theorem test_attemptAbandoned : (after (.attemptAbandoned ⟨3, 0⟩) sending).now = 1001066
    ∧ (after (.attemptAbandoned ⟨3, 0⟩) sending).bus.retryOffset = 2 := by decide
theorem test_tokenTimeout : (after (.tokenTimeout .report) waiting).halt.causes = [.busBlocked]
    ∧ (after (.tokenTimeout .report) waiting).now = 1011000 := by decide
/-- A character A5h after idle begins a frame; another one does not, and the wait starts again after either. -/
theorem test_startBitSeen :
    ((after (.startBitSeen ⟨1002000, 0x1A5#9, 0⟩) waiting).bus.receiver = .takingFrame
        ∧ (after (.startBitSeen ⟨1002000, 0x1A5#9, 0⟩) waiting).accessMoment = some (1002010 + 36))
      ∧ (after (.startBitSeen ⟨1002000, 0x1A4#9, 0⟩) waiting).bus.receiver = .waitingForIdle := by decide
/-- R170, R182: on a line held at the drive level no access is gained, and the token is dropped at its 10 ms limit. -/
theorem test_line_held :
    (let s := after (.startBitSeen ⟨1002000, 0#9, 50000⟩) waiting
     s.accessMoment = some (1052010 + 36) ∧ (after (.tokenTimeout .report) s).halt.causes = [.busBlocked]) := by decide
/-- R171: characters that follow a character other than A5h within 12 bit times of idle belong to no frame. -/
theorem test_frame_not_taken :
    (after (.raiseFrame 1002081 (memberRequest 1).chars)
      { station .holding with bus := { (station .holding).bus with idleFrom := 1002000 } }).ctrl.state = .holding
      ∧ (after (.raiseFrame 1002082 (memberRequest 1).chars)
        { station .holding with bus := { (station .holding).bus with idleFrom := 1002000 } }).ctrl.state = .lifting := by
  decide +kernel
theorem test_receivedFrameDiscarded :
    (after (.receivedFrameDiscarded 1002000 .badCrc) waiting).bus.receiver = .waitingForIdle := by decide
theorem test_requestFrameOtherCode :
    (after (.requestFrameOtherCode 1002000 (memberRequest 9).chars) (station .holding)).request = (station .holding).request := by
  decide +kernel

/-! ## Witnesses: hypotheses met, statement by statement -/

/-- A lawful station with a command waiting. -/
def witness : State := { station .holding with pending := [.clashHoldExpiry] }

/-- A part held in reset. -/
def held : State := after (.resetOnset 1002000 .resetPin) (station .holding)

theorem witness_StepRunsTheFrontCommand : witness.pending = .clashHoldExpiry :: [] := rfl
theorem witness_HeldResetFreezesThePart : held.start.resetHeld = true
    ∧ (∀ m r, Instr.sampleTimerExpiry ≠ .resetOnset m r) ∧ (∀ m i, Instr.sampleTimerExpiry ≠ .resetEnd m i) :=
  ⟨by decide, nofun, nofun⟩
theorem witness_OutputRisesAtControlExpiriesAlone :
    (∃ t, exec .controlTimerExpiry witness = .next t) ∧ (∃ t, exec .sampleTimerExpiry witness = .next t)
      ∧ Instr.sampleTimerExpiry ≠ .controlTimerExpiry := ⟨⟨_, rfl⟩, ⟨_, rfl⟩, nofun⟩
theorem witness_StepKeepsBrakeLaw : BrakeLaw witness ∧ (∃ t, step witness = .next t) ∧ BrakeLaw creepHalt
    ∧ creepHalt.ctrl.state.isResting = true := ⟨by decide, ⟨_, rfl⟩, by decide, by decide⟩
theorem witness_StepKeepsOutputLaw : OutputLaw witness ∧ ∃ t, step witness = .next t := ⟨by decide, _, rfl⟩
theorem witness_StepKeepsHaltLaw : HaltLaw witness ∧ ∃ t, step witness = .next t := ⟨by decide, _, rfl⟩
theorem witness_StepKeepsEstopLaw : EstopLaw witness ∧ ∃ t, step witness = .next t := ⟨by decide, _, rfl⟩
theorem witness_StepKeepsContextAndLampLaws : (ContextLaw witness ∧ LampsAndParkLaw witness) ∧ ∃ t, step witness = .next t :=
  ⟨by decide, _, rfl⟩
theorem witness_StepKeepsMembersLaw : MembersLaw witness ∧ ∃ t, step witness = .next t := ⟨by decide, _, rfl⟩
theorem witness_StepKeepsPeerTableLaws : OwnEntryLaw witness ∧ EntryLaw witness ∧ ∃ t, step witness = .next t :=
  ⟨by decide, by decide, _, rfl⟩
theorem witness_StepKeepsRequestLaw : (RequestLaw witness ∧ RequestLaw jogging) ∧ ∃ t, step witness = .next t :=
  ⟨by decide, _, rfl⟩
theorem witness_StepKeepsStartAndMeasureLaws :
    StartLaw witness ∧ MeasureLaw witness ∧ FilterLaw witness ∧ ∃ t, step witness = .next t :=
  ⟨by decide, by decide, by decide, _, rfl⟩
theorem witness_StepKeepsBusLaw : BusLaw witness ∧ ∃ t, step witness = .next t := ⟨by decide, _, rfl⟩

theorem witness_ResetGivesEveryBlockItsResetValues :
    (station .lifting).start.resetHeld = false ∧ held.start.resetHeld = true := by decide
theorem witness_HoldOffEndReadsTheStraps :
    State.reset.start.resetHeld = false ∧ State.reset.start.holdOff = some 200000 := by decide
/-- At both ends of the station numbers, with no level condition and with the e-stop's. -/
theorem witness_ValidStartEntersAssembling :
    ∀ s ∈ [reading 1, reading 24, { reading 24 with request := { (reading 24).request with estopAOpen := true } }],
      s.start.resetHeld = false ∧ s.start.optionRead = some 201184 ∧ s.ctrl.state = .start
        ∧ (s.start.strapReading = some 1 ∨ s.start.strapReading = some 24)
        ∧ readOptions (blockOf (dataLine (block 60 200))) = some options ∧ OwnEntryLaw s ∧ HaltLaw s := by decide +kernel
/-- The numbers next to 1..24 with a valid block, and a valid number with an invalid one. -/
theorem witness_InvalidStartEntersConfigFault :
    (∀ n ∈ [0, 25], (reading n).start.resetHeld = false ∧ (reading n).start.optionRead = some 201184
        ∧ (reading n).ctrl.state = .start ∧ (reading n).start.strapReading = some n ∧ (reading n).start.config = none
        ∧ ¬(1 ≤ n ∧ n ≤ 24))
      ∧ (reading 24).start.strapReading = some 24 ∧ readOptions (blockOf (dataLine (block 70 120))) = none := by decide +kernel
/-- No policy, DERATE, HALT, and the end of the indication. -/
theorem witness_SupplyLowActsByPolicy :
    (State.reset.start.resetHeld = false ∧ State.reset.start.supplyLow = !true ∧ State.reset.start.config = none)
      ∧ (witness.start.resetHeld = false ∧ witness.start.supplyLow = !true
          ∧ witness.start.config.map Options.policy = some .derate ∧ OutputLaw witness)
      ∧ (({ options with policy := .halt } : Options).policy = .halt)
      ∧ ({ witness with start := { witness.start with supplyLow := true } }).start.supplyLow = !false := by decide
/-- One channel changed, both, none; in an operating state and in START. -/
theorem witness_EncoderSampleCountsOneEdge :
    witness.start.resetHeld = false ∧ witness.meas.encoderA = false ∧ witness.meas.encoderB = false
      ∧ witness.ctrl.state.isOperating = true ∧ State.reset.start.resetHeld = false
      ∧ State.reset.ctrl.state.isOperating = false := by decide
/-- The reference 50 and 51 counts away, on a SET brake; the extreme 50 and 51 counts above, on a RELEASED one. -/
theorem witness_CreepIsJudgedAtEachCount :
    (∀ r ∈ [(29951 : Int), 29950],
        (let s := { witness with drive := { witness.drive with creepReference := r } }
         s.start.resetHeld = false ∧ s.ctrl.state.isOperating = true ∧ s.start.config = some { options with n := 2 }
           ∧ BrakeLaw s ∧ HaltLaw s ∧ (30001 : Int) = countStroke s.meas.stroke (encoderStep s.meas.encoderA s.meas.encoderB true false)
           ∧ (30001 : Int) ≠ s.meas.stroke))
      ∧ (∀ x ∈ [(30049 : Int), 30050],
        (let s := { station .lifting with drive := { witness.drive with brake := .released, extreme := some x } }
         s.start.resetHeld = false ∧ s.ctrl.state.isOperating = true ∧ s.start.config = some { options with n := 2 }
           ∧ BrakeLaw s ∧ HaltLaw s ∧ (29999 : Int) = countStroke s.meas.stroke (encoderStep s.meas.encoderA s.meas.encoderB false true)
           ∧ (29999 : Int) ≠ s.meas.stroke)) := by decide
/-- The counter at 98 and at 99 with d_min applied at rest, and below d_min; and START, without a configuration. -/
theorem witness_SampleExpiryFormsVelocityAndWatchesStall :
    (State.reset.start.resetHeld = false ∧ State.reset.meas.sampleTimer = some 13000 ∧ State.reset.start.config = none)
      ∧ ∀ s ∈ [({ station .lifting with drive := { witness.drive with brake := .released, applied := 60, stall := 98 } } : State),
        { station .lifting with drive := { witness.drive with brake := .released, applied := 60, stall := 99 } },
        { station .lifting with drive := { witness.drive with brake := .released, applied := 59, stall := 99 } }],
      s.start.resetHeld = false ∧ s.meas.sampleTimer = some 1003000 ∧ s.start.config = some { options with n := 2 }
        ∧ s.ctrl.state.isOperating = true ∧ s.meas.sample.velocity = 0 := by decide
/-- The station whose unseat counter stands at a value, its pad lifted by 500 counts at the latched stroke. -/
def comingAway (value overloads : Nat) (o : Options) : State :=
  { station .lifting with
    start := { (station .lifting).start with config := some o }
    meas := { (station .lifting).meas with
      latchedStroke := 29500, unseat := ⟨value, true⟩, overloadCount := overloads } }
/-- A good sample with the counters still; the unseat counter at 1 and 2 with load 0; the overload count at 2 and 1 with load
1800; both at once, under options that no valid block gives; the jog's load before 149 and after 150; the fourth and the
fifth miss. -/
theorem witness_ConverterReadIsSampleOrMiss :
    (witness.start.resetHeld = false ∧ witness.meas.converterRead = some 1001010
        ∧ witness.meas.contact.running = false ∧ witness.meas.release.running = false ∧ witness.meas.unseat = ⟨5, true⟩
        ∧ witness.ctrl.state ≠ .jog)
      ∧ (∀ s ∈ [comingAway 1 0 options, comingAway 2 0 options, comingAway 1 2 options, comingAway 1 1 options,
            comingAway 1 2 { options with releaseThreshold := 1900 }, station .jog],
          s.start.resetHeld = false ∧ s.meas.converterRead = some 1001010 ∧ s.meas.overload = false)
      ∧ (comingAway 1 0 options).sampleCauses 0 = [.unseat] ∧ (comingAway 2 0 options).sampleCauses 0 = []
      ∧ (comingAway 1 2 options).sampleCauses 1800 = [.overload] ∧ (comingAway 1 1 options).sampleCauses 1800 = []
      ∧ (comingAway 1 2 { options with releaseThreshold := 1900 }).sampleCauses 1800 = [.overload, .unseat]
      ∧ [30, 336, 338, 3716].map (scaleLoad 30 2000) = [0, 149, 150, 1800]
      ∧ (∀ k ∈ [3, 4], ({ witness.meas with missCount := k } : Measurement).silent = false) := by decide
/-- SEATING with its counter at 1 and at 2, loads 150 and 149, and load 1800, the overload limit, with an overload count of 0 and
1; UNSEATING at 1 with load 59. -/
theorem witness_ConfirmationsSetAndDropTheContactRecord :
    (∀ v ∈ [1, 2],
        (let s := asked .raise { station .seating with meas := { (station .seating).meas with contact := ⟨v, true⟩ } }
         s.start.resetHeld = false ∧ s.meas.converterRead = some 1001010 ∧ s.start.config = some { options with n := 2 }
           ∧ s.ctrl.state = .seating ∧ s.command = .raise ∧ s.meas.contact.running = true ∧ s.meas.unseat.running = false))
      ∧ scaleLoad 30 2000 338 = 150 ∧ scaleLoad 30 2000 336 = 149
      ∧ (options.overloadLimit ≤ scaleLoad 30 2000 3716
          ∧ ∀ k ∈ [0, 1], ¬(options.overloadLimit ≤ scaleLoad 30 2000 3716
            ∧ ({ (station .seating).meas with overloadCount := k } : Measurement).overload = false ∧ 2 ≤ k))
      ∧ (let s := { station .unseating with meas := { (station .unseating).meas with release := ⟨1, true⟩ } }
         s.start.resetHeld = false ∧ s.meas.converterRead = some 1001010 ∧ s.start.config = some { options with n := 2 }
           ∧ s.ctrl.state = .unseating ∧ s.command ≠ .raise ∧ s.meas.release.running = true ∧ s.meas.unseat.running = false
           ∧ s.assemblyHolds = true
           ∧ (s.putEntry 12 { peer .holding with faulty := true }).assemblyHolds = false
           ∧ (s.putEntry 12 { peer .holding with faulty := true }).groupAssembled = false)
      ∧ scaleLoad 30 2000 152 = 59 ∧ (BitVec.ofNat 16 (0x4000 + 4 * 338)).toNat / 4 % 4096 = 338 := by decide
/-- An end switch toward and away from the motion, and the overtravel switch. -/
theorem witness_SwitchChangeClampsOrHalts :
    (station .lifting).start.resetHeld = false ∧ (station .lifting).meas.switch .upperEnd = !true
      ∧ (station .lifting).ctrl.state.motion .up = some .up ∧ (station .lifting).meas.switch .lowerEnd = !true
      ∧ (station .lifting).meas.switch .overtravel = !true := by decide
/-- The ends of the ranges; and a member's entry 100 ms old and more. -/
theorem witness_PredictionCarriesTheReportForward :
    ((200000 : Nat) ≤ 200000 ∧ (-999 : Int) ≤ -999 ∧ (-999 : Int) ≤ 999 ∧ (100 : Nat) ≤ 100) ∧ (-999 : Int) ≤ 999 ∧ (999 : Int) ≤ 999
      ∧ (let e := { peer .holding with content := some { peerContent .holding with lift := some 200000, velocity := 999 } }
         let s := { witness.putEntry 12 e with now := 1740000 }
         Table.get s.peers.entries 12 = some e ∧ e.member = true ∧ e.status = .fresh ∧ e.lastArrival = some 1000000
           ∧ 100 = min ((s.now - 1000000) / 1000) 100) := by decide
theorem witness_ReferenceIsLeastOrGreatestLift : (200000 : Nat) ≤ 200000 ∧ (∀ x ∈ [0, 200000], x ≤ 200000)
    ∧ (({ witness.putEntry 12 { peer .holding with content := some { peerContent .holding with lift := some 900 } } with
        ctrl := witness.ctrl } : State).predictions = [(0, 900)]) := by decide
/-- Leads 299 and 300 at a window of 300, in both states. -/
theorem witness_LeadDemandLiesBetweenDMinAndCeiling :
    (station .lifting).start.config = some { options with n := 2 } ∧ ({ options with n := 2 } : Options).inRange = true
      ∧ (station .lifting).ctrl.state = .lifting ∧ (station .lowering).ctrl.state = .lowering
      ∧ options.window ≤ 300 ∧ 299 < options.window
      ∧ ({ options with window := 801, spreadBody := 900 } : Options).inRange = true
      ∧ (station .lifting).start.ceiling .lifting < 801 := by decide
theorem witness_EligibleExactlyByTheFiveConditions :
    OwnEntryLaw witness ∧ Table.get witness.peers.entries witness.ownNumber = some Entry.empty := by decide
theorem witness_ControlExpiryFormsTheOutput :
    (State.reset.start.resetHeld = false ∧ State.reset.engine.controlTimer = some 10000 ∧ State.reset.start.config = none
        ∧ (State.reset.tick 10000).spreadCauses = [])
      ∧ ∀ st ∈ [StationState.lifting, .lowering, .seating, .unseating, .jog, .holding],
      (station st).start.resetHeld = false ∧ (station st).engine.controlTimer = some 1005000
        ∧ (station st).start.config = some { options with n := 2 } ∧ ((station st).tick 1005000).spreadCauses = [] := by decide
/-- The station lifting at lift 1000 with its member's lift reported. -/
def spreading (body lift : Nat) : State :=
  (station .lifting).putEntry 12
    { peer .lifting with content := some { peerContent .lifting with lift := some lift, bodyIndex := body } }
/-- Both limits passed; one of them; a set spread of 900 and of 901. -/
theorem witness_SpreadBeyondALimitHalts :
    (∀ s ∈ [spreading 0 1901, spreading 0 1401, spreading 1 1901, spreading 1 1900],
        s.start.resetHeld = false ∧ s.engine.controlTimer = some 1005000 ∧ s.start.config = some { options with n := 2 }
          ∧ HaltLaw s)
      ∧ ((spreading 0 1901).tick 1005000).spreadCauses = [.spreadSet, .spreadBody]
      ∧ ((spreading 0 1401).tick 1005000).spreadCauses = [.spreadBody]
      ∧ ((spreading 1 1901).tick 1005000).spreadCauses = [.spreadSet]
      ∧ ((spreading 1 1900).tick 1005000).spreadCauses = [] := by decide
theorem witness_BrakeTimersReleaseAndSet :
    witness.start.resetHeld = false
      ∧ ({ witness.drive with brake := .releasing, releaseTimer := some 5 } : Drive).releaseTimer = some 5
      ∧ ({ witness.drive with brake := .released, setDelay := some 5 } : Drive).setDelay = some 5 := by decide
/-- The station with a LOWER key held. -/
def bothKeys (s : State) : State := { s with request := { s.request with lowerKey := ⟨true, false, some 0⟩ } }
/-- START, or CONFIG_FAULT with an invalid station number, with the keys free. -/
def unnumbered (st : StationState) : State :=
  { State.reset with
    request := { (station st).request with mode := .groupMode }
    ctrl := { State.reset.ctrl with state := st } }
/-- In every state but JOG, of which the request law says that its mode is LOCAL, START and CONFIG_FAULT without a station number
among them; with the other key released and pressed; the
motion place free and under attempt; the flag set and clear; a sequence of the other key. -/
theorem witness_GroupPressBeginsARequestSequence :
    (∀ st ∈ [StationState.start, .configFault],
       (unnumbered st).start.resetHeld = false ∧ ((unnumbered st).request.key .raise).pressed = false
         ∧ ((unnumbered st).request.key .raise).blocked = false ∧ (unnumbered st).request.pendantPresent = true
         ∧ (unnumbered st).request.mode = .groupMode ∧ RequestLaw (unnumbered st) ∧ StartLaw (unnumbered st)
         ∧ (unnumbered st).ctrl.state.isOperating = false)
    ∧ (∀ st ∈ [StationState.assembling, .ready, .seating, .holding, .lifting, .lowering, .parked, .unseating, .halted],
      ∀ s ∈ [station st, bothKeys (station st)],
       s.start.resetHeld = false ∧ (s.request.key .raise).pressed = false ∧ (s.request.key .raise).blocked = false
         ∧ s.request.pendantPresent = true ∧ s.request.mode = .groupMode ∧ RequestLaw s
         ∧ 1 ≤ s.ownNumber ∧ s.ownNumber ≤ 24 ∧ s.assemblyHolds = true ∧ s.ctrl.assembled = true) :=
  ⟨by decide, by decide⟩
/-- The two sides of each case of that statement. -/
theorem witness_GroupPressBeginsARequestSequence_cases :
    (((station .ready).request.key (otherKey .raise)).pressed = false
        ∧ ((bothKeys (station .ready)).request.key (otherKey .raise)).pressed = true
        ∧ (station .holding).bus.underAttempt .motion = false
        ∧ ({ (station .holding).bus with attempt := some ⟨.motion, 0, []⟩ } : Bus).underAttempt .motion = true)
      ∧ RequestLaw { station .assembling with ctrl := { (station .assembling).ctrl with assembled := false } }
      ∧ RequestLaw
          (bothKeys { station .holding with request := { (station .holding).request with sequence := some ⟨.lower, 5⟩ } }) := by
  refine ⟨?_, ?_, ?_⟩ <;> decide
/-- A state of each clause: not operating, unloaded with the other key pressed and released, refusing, HOLDING, PARKED. -/
theorem witness_LocalPressJogsOrIsRefused :
    (∀ st ∈ [StationState.configFault, .ready, .seating, .halted, .holding, .parked, .jog],
        (let s := { station st with request := { (station st).request with mode := .localMode } }
         s.start.resetHeld = false ∧ (s.request.key .raise).pressed = false ∧ (s.request.key .raise).blocked = false
           ∧ s.request.pendantPresent = true ∧ s.request.mode = .localMode ∧ s.request.sequence = none))
      ∧ (station .ready).assemblyHolds = true ∧ (station .parked).command = .none
      ∧ StationState.configFault.isOperating = false ∧ StationState.halted.refusesJog = true
      ∧ Key.raise = holdingKey (station .jog).ctrl.jogDirection
      ∧ (jogging.request.key .lower).pressed = false ∧ (jogging.request.key .lower).blocked = false ∧ jogging.request.pendantPresent = true
      ∧ jogging.request.mode = .localMode ∧ jogging.request.sequence = none
      ∧ Key.lower ≠ holdingKey jogging.ctrl.jogDirection := by decide
/-- In HALTED with an edge cause, which the clear removes, and with a level cause that stands, with and without the contact
record and the flag; in HOLDING, in PARKED, in CONFIG_FAULT and elsewhere. -/
theorem witness_ResetPressClearsAndAsksTheGroup :
    (∀ s ∈ [creepHalt, { creepHalt with ctrl := { creepHalt.ctrl with contact := none } },
          { creepHalt with ctrl := { creepHalt.ctrl with contact := none, assembled := false } },
          station .lifting, station .holding, station .parked, station .configFault],
        s.start.resetHeld = false ∧ s.request.resetKey.pressed = false ∧ s.request.resetKey.blocked = false
          ∧ s.request.pendantPresent = true ∧ s.bus.clear = none)
      ∧ StationState.configFault.isOperating = false ∧ StationState.lifting.isOperating = true
      ∧ (station .holding).ctrl.parkTimer = some 31000000
      ∧ creepHalt.halt.causes.filter creepHalt.conditionPresent = []
      ∧ (let s := { creepHalt with meas := { creepHalt.meas with overtravel := true }
                                   halt := { creepHalt.halt with causes := [.overtravel, .creep] } }
         s.halt.causes.filter s.conditionPresent = [.overtravel]) := by decide
/-- A key up and a key down; the holding key of a jog; a mode change each way. -/
theorem witness_ReleaseAndModeEndJogAndSequence :
    jogging.start.resetHeld = false ∧ (jogging.request.key .lower).pressed = false ∧ (jogging.request.key .raise).pressed = true
      ∧ jogging.ctrl.state = .jog ∧ Key.raise = holdingKey jogging.ctrl.jogDirection ∧ jogging.ctrl.assembled = true
      ∧ jogging.assemblyHolds = true ∧ jogging.command ≠ .raise ∧ Mode.groupMode ≠ jogging.request.mode
      ∧ sequencing.start.resetHeld = false ∧ Mode.localMode ≠ sequencing.request.mode
      ∧ sequencing.ctrl.state.isOperating = true
      ∧ ({ jogging.ctrl with assembled := false } : Controller).state = .jog
      ∧ (jogging.putEntry 12 { peer .holding with faulty := true }).assemblyHolds = false := by decide
theorem witness_PendantPresenceBlocksAndReleasesKeys :
    jogging.start.resetHeld = false ∧ jogging.request.pendantPresent = true ∧ jogging.ctrl.state = .jog
      ∧ (jogging.request.key (holdingKey jogging.ctrl.jogDirection)).pressed = true
      ∧ sequencing.request.pendantPresent = true ∧ sequencing.ctrl.state ≠ .jog ∧ sequencing.request.sequence.isSome = true
      ∧ (∀ k ∈ [Key.raise, .lower, .reset], (witness.request.key k).pressed = false) ∧ witness.ctrl.state ≠ .jog
      ∧ ({ witness.request with pendantPresent := false } : RequestUnit).pendantPresent = false
      ∧ ({ witness.request with refusedLamp := some 5 } : RequestUnit).refusedLamp = some 5 := by decide
theorem witness_RepeatExpiryMakesAnotherRequest :
    sequencing.start.resetHeld = false ∧ sequencing.request.sequence = some ⟨.raise, 1020000⟩
      ∧ sequencing.ctrl.assembled = true ∧ sequencing.assemblyHolds = true := by decide
/-- An onset, a change while the condition stands, and a running discrepancy timer. -/
theorem witness_EstopChannelsHaltAndLatch :
    witness.start.resetHeld = false ∧ witness.request.channelOpen .a = !true ∧ witness.request.estopCondition = false
      ∧ (let r := { witness.request with estopBOpen := true, discrepancySince := some 5 }
         r.channelOpen .a = !true ∧ r.estopCondition = true ∧ r.discrepancySince = some 5) := by decide
theorem witness_FramesDecodeToTheirFields :
    (∀ n ∈ [1#5, 24#5], 1 ≤ ({ haltReport with station := n } : ReportFields).station.toNat
        ∧ ({ haltReport with station := n } : ReportFields).station.toNat ≤ 24)
      ∧ 1 ≤ (memberRequest 1).station.toNat ∧ (memberRequest 1).station.toNat ≤ 24 := by decide
/-- A member's report: as it was, a restart, a mismatch, a halt, and a halt with both, accepted 5 ms after the last scheduled
one; in HOLDING, READY, JOG, HALTED and ASSEMBLING, where it completes the assembly. -/
theorem witness_AcceptedReportUpdatesItsEntry :
    (∀ st ∈ [StationState.ready, .jog, .halted], (station st).start.resetHeld = false ∧ (station st).ctrl.assembled = true
        ∧ (station st).ctrl.state.isOperating = true ∧ (station st).halt.grace = none
        ∧ Table.get (station st).peers.entries 12 = some (peer .holding)
        ∧ (station st).bus.idleFrom + 212 ≤ max (station st).now 1005000)
      ∧ (let s := { (station .assembling).putEntry 12 { peer .ready with member := false } with
           ctrl := { (station .assembling).ctrl with assembled := false } }
         s.ctrl.state = .assembling ∧ s.groupAssembled = true ∧ s.command ≠ .raise
           ∧ (station .assembling).groupAssembled = false)
      ∧ ∀ r ∈ [memberReport 3307 6 0 0, { memberReport 3307 6 0 0 with fresh := true },
        { memberReport 3307 6 0 0 with digest := 0 }, { memberReport 3307 6 0 0 with fresh := true, digest := 0 },
        memberReport 3307 11 9 3, { memberReport 3307 11 9 3 with fresh := true, digest := 0 }],
      witness.start.resetHeld = false ∧ witness.ctrl.state.isOperating = true ∧ 1 ≤ r.station.toNat ∧ r.station.toNat ≤ 24
        ∧ witness.bus.idleFrom + 212 ≤ max witness.now 1005000
        ∧ r.content.isSome = true ∧ r.station.toNat ≠ witness.ownNumber
        ∧ Table.get witness.peers.entries r.station.toNat = some (peer .holding)
        ∧ (peer .holding).content.map Content.unitNumber = r.content.map Content.unitNumber ∧ (peer .holding).faulty = false
        ∧ (peer .holding).isEarly (max witness.now 1005000) = false ∧ (peer .holding).isEarly 1004999 = true := by decide
/-- Characters of no frame, 81 bit times after the line fell idle; a discarded frame, a malformed report, an own echo, a report at a faulty entry, a request of a non-member's unit, and
one of another code. -/
theorem witness_DiscardedFramesChangeNothingElse :
    witness.start.resetHeld = false ∧ receive [] = none ∧ State.reset.ctrl.state.isOperating = false
      ∧ witness.bus.receiver = .waitingForIdle
      ∧ max witness.now 1001081 < 1001000 + 12 + 10 * (memberRequest 1).chars.length
      ∧ (memberReport 3307 6 9 3).content = none
      ∧ (7#5).toNat = witness.ownNumber ∧ (4410#16).toNat = witness.start.unitNumber
      ∧ (let s := witness.putEntry 12 { peer .holding with faulty := true }
         (12#5).toNat ≠ s.ownNumber ∧ (Table.get s.peers.entries 12).map Entry.faulty = some true
           ∧ ((Table.get s.peers.entries 12).bind Entry.content).map Content.unitNumber = some (3307#16).toNat)
      ∧ (peer .holding).content.map Content.unitNumber ≠ some ({ memberRequest 1 with unitNumber := 5 } : RequestFields).unitNumber.toNat
      ∧ (memberRequest 9).code ≠ 1#8 ∧ (memberRequest 9).code ≠ 2#8 ∧ (memberRequest 9).code ≠ 3#8 := by decide
/-- A clash and a duplicate, in READY, JOG, ASSEMBLING, HOLDING and HALTED. -/
theorem witness_ClashAndDuplicateAreHeld1500Ms :
    ∀ st ∈ [StationState.ready, .jog, .assembling, .holding, .halted],
      (let s := station st
       let clash := { memberReport 5127 3 0 0 with station := 7 }
       s.start.resetHeld = false ∧ s.ctrl.state.isOperating = true
         ∧ s.bus.idleFrom + 212 ≤ max s.now 1005000 ∧ s.ctrl.assembled = true
         ∧ 1 ≤ s.ownNumber ∧ s.ownNumber ≤ 24 ∧ (let q := { memberRequest 3 with station := 7 }
             q.station.toNat = s.ownNumber ∧ q.unitNumber.toNat ≠ s.start.unitNumber)
         ∧ clash.station.toNat = s.ownNumber ∧ clash.content.map Content.unitNumber = some 5127 ∧ 5127 ≠ s.start.unitNumber
         ∧ (12#5).toNat ≠ s.ownNumber ∧ Table.get s.peers.entries 12 = some (peer .holding) ∧ (peer .holding).status = .fresh
         ∧ (peer .holding).content.map Content.unitNumber ≠ (memberReport 5127 3 0 0).content.map Content.unitNumber
         ∧ (peer .holding).member = true) := by decide
/-- 4.999 ms after the last scheduled arrival, with the early mark clear and set, in HOLDING, READY and JOG. -/
theorem witness_SecondEarlyReportMakesTheEntryFaulty :
    ∀ e ∈ [peer .holding, { peer .holding with early := true }], ∀ st ∈ [StationState.holding, .ready, .jog],
      (let s := (station st).putEntry 12 e
       let r := memberReport 3307 6 0 0
       s.start.resetHeld = false ∧ s.ctrl.state.isOperating = true ∧ 1 ≤ r.station.toNat ∧ r.station.toNat ≤ 24
         ∧ r.content = some (peerContent .holding) ∧ r.station.toNat ≠ s.ownNumber
         ∧ s.bus.idleFrom + 212 ≤ max s.now 1004999 ∧ e.member = true ∧ s.ctrl.assembled = true
         ∧ Table.get s.peers.entries r.station.toNat = some e ∧ e.status = .fresh ∧ e.faulty = false
         ∧ e.content = some (peerContent .holding) ∧ e.lastScheduled = some 1000000 ∧ r.prompt = false
         ∧ max s.now 1004999 < 1000000 + 5000) := by decide
/-- In every state a member's request can move, with the group poised and landed and not. -/
theorem witness_AcceptedRequestFillsItsSlot :
    (∀ st ∈ [StationState.ready, .seating, .holding, .lifting, .lowering, .parked, .unseating, .halted, .jog],
      (let s := station st
       s.start.resetHeld = false ∧ s.ctrl.state.isOperating = true ∧ (memberRequest 1).station.toNat ≠ s.ownNumber
        ∧ s.bus.idleFrom + 82 ≤ max s.now 1002000
        ∧ Table.get s.peers.entries (memberRequest 1).station.toNat = some (peer .holding) ∧ s.ctrl.assembled = true
        ∧ s.assemblyHolds = true ∧ (peer .holding).member = true ∧ (peer .holding).faulty = false
        ∧ (peer .holding).content.map Content.unitNumber = some (memberRequest 1).unitNumber.toNat
        ∧ (memberRequest 1).code = 1#8 ∧ (memberRequest 2).code = 2#8 ∧ s.membersPoised = true ∧ s.membersLanded = false))
      ∧ ((station .parked).putEntry 12 (peer .parked)).membersPoised = false
      ∧ (let s := { (station .lowering).putEntry 12
           { peer .unseating with content := some { peerContent .unseating with lift := some 0 } } with
           meas := { (station .lowering).meas with stroke := 29000 } }
         s.membersLanded = true ∧ s.membersPoised = false) := by decide
/-- In HALTED with and without the contact record, out of HALTED, and from an entry that is STALE. -/
theorem witness_AcceptedClearFrameMakesAClearAttempt :
    (∀ s ∈ [creepHalt, { creepHalt with ctrl := { creepHalt.ctrl with contact := none } }, station .holding],
        s.start.resetHeld = false ∧ s.ctrl.state.isOperating = true ∧ (memberRequest 3).station.toNat ≠ s.ownNumber
          ∧ s.bus.idleFrom + 82 ≤ max s.now 1002000
          ∧ Table.get s.peers.entries (memberRequest 3).station.toNat = some (peer .holding) ∧ s.ctrl.assembled = true
          ∧ (peer .holding).member = true ∧ (peer .holding).faulty = false ∧ s.assemblyHolds = true ∧ s.command = .none
          ∧ (peer .holding).content.map Content.unitNumber = some (memberRequest 3).unitNumber.toNat
          ∧ (memberRequest 3).code = 3#8)
      ∧ creepHalt.halt.causes.filter creepHalt.conditionPresent = []
      ∧ (let e := { peer .holding with status := .stale, staleDeadline := none }
         Table.get (creepHalt.putEntry 12 e).peers.entries 12 = some e ∧ e.status ≠ .fresh
           ∧ (creepHalt.putEntry 12 e).assemblyHolds = false ∧ (creepHalt.putEntry 12 e).groupAssembled = false) := by decide
theorem witness_DeadlinesEndWhatTheyHold :
    witness.start.resetHeld = false ∧ witness.assemblyHolds = true
      ∧ Table.get (asked .raise witness).request.slots 12 = some (some ⟨.raise, 1000000⟩)
      ∧ Table.get contested.peers.entries 12
        = some { peer .holding with contested := true, contestDeadline := some 2500000 }
      ∧ ({ witness.peers with clashHold := some 5 } : PeerTable).clashHold = some 5
      ∧ ({ witness.halt with grace := some 5 } : HaltUnit).grace = some 5
      ∧ (let s := { (station .assembling).putEntry 12 { peer .ready with member := false } with
           ctrl := { (station .assembling).ctrl with assembled := false } }
         s.ctrl.state = .assembling ∧ s.groupAssembled = true ∧ s.command ≠ .raise) := by decide
/-- A running and a stopped deadline; a member in HOLDING and in READY, and an entry that is none. -/
theorem witness_StaleDeadlineLosesTheMember :
    (∀ s ∈ [station .holding, station .ready, station .jog], s.start.resetHeld = false ∧ s.ctrl.assembled = true
        ∧ Table.get s.peers.entries 12 = some (peer .holding) ∧ (peer .holding).staleDeadline = some 1060000
        ∧ (peer .holding).member = true)
      ∧ Table.get witness.peers.entries 24 = some Entry.empty ∧ Entry.empty.staleDeadline = none
      ∧ ({ peer .holding with member := false } : Entry).staleDeadline = some 1060000 := by decide
theorem witness_ParkTimerParksTheStation :
    witness.start.resetHeld = false ∧ witness.ctrl.parkTimer = some 31000000 ∧ witness.ctrl.state = .holding
      ∧ witness.command = .none ∧ witness.bus.attempt = none ∧ witness.bus.promptSpent = false
      ∧ sending.bus.underAttempt .report = true ∧ witness.bus.underAttempt .report = false
      ∧ sending.ctrl.parkTimer = some 31000000 := by decide
theorem witness_ReportTimerQueuesAScheduledReport :
    (∀ s ∈ [witness, sending], s.start.resetHeld = false ∧ s.bus.reportTimer = some ⟨1010000, .fast⟩)
      ∧ witness.bus.underAttempt .report = false ∧ sending.bus.underAttempt .report = true := by decide +kernel
/-- The station of 12.1's example, just halted on SPREAD_SET with its contact stroke 29000. -/
def spreadHalt : State :=
  { creepHalt with
    meas := { creepHalt.meas with stroke := 44210, velocity := -3, load := 1318 }
    halt := { causes := [.spreadSet], first := some ⟨.spreadSet, 7⟩, grace := none, faultLamp := true } }
/-- 12.1's example: the blocks of that station give that report. -/
theorem test_report_fields : spreadHalt.reportFields true = haltReport := by decide
/-- Station 7 in ASSEMBLING with two stations eligible in a group of two, and no clash held. -/
def crowded : State :=
  ({ station .assembling with ctrl := { (station .assembling).ctrl with assembled := false } }.putEntry 12
    { peer .ready with member := false }).putEntry 13 { peer .ready with member := false }
/-- R10: SURPLUS in the report; R141: requests of both kinds give the conflict indication. -/
theorem test_report_indications : crowded.peers.clashHold = none ∧ (crowded.reportFields false).clashOrSurplus = true
    ∧ ((station .assembling).reportFields false).clashOrSurplus = false
    ∧ ((asked .raise ((station .holding).putSlot 7 (some ⟨.lower, 1000000⟩))).reportFields false).conflict = true := by decide
/-- The laws under which the fields read back, in HALTED, outside it and in CONFIG_FAULT. -/
theorem witness_AccessBeginsWithTheFrontToken_laws :
    (∀ s ∈ [spreadHalt, waiting], StartLaw s ∧ MeasureLaw s ∧ HaltLaw s ∧ s.start.unitNumber < 65536)
      ∧ spreadHalt.ctrl.state = .halted ∧ waiting.ctrl.state ≠ .halted
      ∧ (∀ f ∈ spreadHalt.halt.first, f.origin ≤ 24)
      ∧ StartLaw (unnumbered .configFault) ∧ ContextLaw (unnumbered .configFault)
      ∧ (unnumbered .configFault).ctrl.state = .configFault := by
  refine ⟨?_, ?_, ?_, ?_, ?_, ?_, ?_⟩ <;> decide
/-- With a prompt report waiting, and with two tokens of one entry moment. -/
theorem witness_AccessBeginsWithTheFrontToken :
    ∀ b ∈ [{ waiting.bus with report := some ⟨true, 1001000, 0⟩ }, { waiting.bus with clear := some ⟨1001000, 0⟩ }],
      waiting.start.resetHeld = false ∧ b.attempt = none ∧ b.accessWait = some 1001000 ∧ b.isEmpty = false := by decide
/-- Without a pending report, and with one whose report timer is to restart, the prompt-spent flag clear. -/
theorem witness_SentFrameLeavesTheQueue : sending.start.resetHeld = false
    ∧ sending.bus.attempt.map Attempt.place = some .report ∧ sending.bus.pendingReport = none
    ∧ sending.bus.promptSpent = false
    ∧ (after .parkTimerExpiry sending).bus.pendingReport = some ⟨true, true⟩
    ∧ (after .parkTimerExpiry sending).bus.attempt = sending.bus.attempt := by decide +kernel
/-- R160, R177: that report timer restarts at the end of the attempt. -/
theorem test_pending_restart :
    (after .attemptSent (after .parkTimerExpiry sending)).bus.reportTimer = some ⟨31500000, .slow⟩ := by decide +kernel
/-- The first failure, the sixteenth, and one more than 10 ms after the entry; with a pending restart and without one. -/
theorem witness_AbandonedAttemptWaitsOrIsDropped :
    (sending.start.resetHeld = false ∧ sending.bus.attempt.isSome = true ∧ sending.bus.enteredAt .report = some 1001000
        ∧ sending.bus.attemptsOf .report + 1 < 16)
      ∧ 16 ≤ ({ sending.bus with report := some ⟨false, 1001000, 15⟩ } : Bus).attemptsOf .report + 1
      ∧ (990990 : Nat) + 10000 < sending.now
      ∧ (after .parkTimerExpiry sending).bus.pendingReport.any (fun x => x.prompt && x.restart) = true
      ∧ (({ sending.bus with attempt := some ⟨.motion, 1001036, []⟩ } : Bus).requestMotion 1001040 .raise).pendingMotion
        = some .raise
      ∧ sending.bus.pendingReport.any (fun x => x.prompt && x.restart) = false := by decide +kernel
theorem witness_FourRetriesSeparateTwoUnitNumbers :
    (4410 : Nat) < 65536 ∧ (65535 : Nat) < 65536 ∧ (4410 : Nat) ≠ 65535 ∧ (1 : Nat) ≤ 1 := by decide
theorem witness_WaitingTokenIsDroppedAfterTenMs :
    (∀ s ∈ [waiting, sending], s.start.resetHeld = false ∧ s.bus.enteredAt .report = some 1001000)
      ∧ waiting.bus.underAttempt .report = false ∧ sending.bus.underAttempt .report = true := by decide +kernel
/-- A start bit 11, 12 and 13 bit times after the line's last stop bit, of A5h and of another character, while the receiver waits
and while it takes a frame, in an attempt and out of it. -/
theorem witness_LineEventsTouchTheLinePartAlone :
    witness.start.resetHeld = false
      ∧ (let b := { witness.bus with idleFrom := 1001000 }
         1001011 < b.idleFrom + 12 ∧ b.idleFrom + 12 ≤ 1001012 ∧ b.idleFrom + 12 < 1001013)
      ∧ witness.bus.receiver = .waitingForIdle ∧ sending.bus.receiver = .takingFrame ∧ sending.bus.attempt.isSome = true
      ∧ witness.bus.attempt = none ∧ (0x1A5#9).getLsbD 8 = true ∧ (0x0A5#9).getLsbD 8 = false
      ∧ (0x1A5#9).extractLsb' 0 8 = 0xA5#8 ∧ (0x1A4#9).extractLsb' 0 8 ≠ 0xA5#8 := by decide

end Sys2Proof.Tests
end

section
/-! Eligibility of a peer table entry (R9), condition by condition, and the own entry. -/

namespace Sys2Proof.Machine

theorem Entry.digestIs_some_iff (e : Entry) (own : Word16) :
    e.digestIs (some own) = true ↔ ∃ c, e.content = some c ∧ c.digest = own := by
  unfold Entry.digestIs
  cases e.content with
  | none => simp
  | some c => simp [eq_comm]

theorem Entry.reports_iff (e : Entry) (p : StationState → Bool) :
    e.reports p = true ↔ ∃ c, e.content = some c ∧ p c.state = true := by
  unfold Entry.reports
  cases e.content <;> simp

theorem StationState.isUnassembled_iff (st : StationState) :
    st.isUnassembled = true ↔ st = .assembling ∨ st = .ready ∨ st = .jog := by
  cases st <;> simp [StationState.isUnassembled]

theorem Entry.sound_iff (e : Entry) (own : Option Word16) :
    e.sound own = true ↔
      e.status = .fresh ∧ e.faulty = false ∧ e.contested = false ∧ e.digestIs own = true := by
  simp [Entry.sound, and_assoc]

/-- The digest and the state that count are those of one and the same report. -/
theorem Entry.eligible_some_iff (e : Entry) (own : Word16) :
    e.eligible (some own) = true ↔
      e.status = .fresh ∧ e.faulty = false ∧ e.contested = false
        ∧ ∃ c, e.content = some c ∧ c.digest = own ∧ (c.state = .assembling ∨ c.state = .ready ∨ c.state = .jog) := by
  rw [Entry.eligible, Bool.and_eq_true, Entry.sound_iff, Entry.digestIs_some_iff, Entry.reports_iff]
  constructor
  · rintro ⟨⟨hfresh, hfaulty, hcontested, c, hc, hdigest⟩, c', hc', hstate⟩
    obtain rfl : c = c' := Option.some.inj (hc.symm.trans hc')
    exact ⟨hfresh, hfaulty, hcontested, c, hc, hdigest, c.state.isUnassembled_iff.mp hstate⟩
  · rintro ⟨hfresh, hfaulty, hcontested, c, hc, hdigest, hstate⟩
    exact ⟨⟨hfresh, hfaulty, hcontested, c, hc, hdigest⟩, c, hc, c.state.isUnassembled_iff.mpr hstate⟩

/-- An EMPTY entry is not FRESH, whatever the own digest. -/
@[simp] theorem Entry.eligible_empty (own : Option Word16) : Entry.empty.eligible own = false := rfl

/-- The own-entry law (R52), at the entry a lookup of the own number finds. -/
theorem OwnEntryLaw.eq_empty {s : State} {e : Entry} (law : OwnEntryLaw s)
    (hget : Table.get s.peers.entries s.ownNumber = some e) : e = Entry.empty := by
  obtain ⟨-, hown⟩ := law
  simpa [hget] using hown

/-- Settles O43: the five conditions one by one, and the own entry because it is EMPTY. -/
theorem eligibleExactlyByTheFiveConditions : Obligations.EligibleExactlyByTheFiveConditions := by
  refine ⟨Entry.eligible_some_iff, fun s e law hget => ?_⟩
  rw [law.eq_empty hget, Entry.eligible_empty]

end Sys2Proof.Machine
end

section
/-! Synchronised motion: the prediction of a member's lift (R81, R82) and the demand formed from the lead (R90). -/

namespace Sys2Proof.Machine

/-! ## The prediction -/

/-- Truncation toward zero (R82), by the sign of the number. -/
theorem tdiv_hundred_eq_ite (x : Int) : x.tdiv 100 = if 0 ≤ x then x / 100 else -(-x / 100) := by
  split
  · next hx => exact Int.tdiv_eq_ediv_of_nonneg hx
  · next hx =>
    have hneg : (-x).tdiv 100 = -x / 100 := Int.tdiv_eq_ediv_of_nonneg (by omega)
    rw [← hneg, Int.neg_tdiv, neg_neg]

theorem cast_clampLift (x : Int) : ((clampLift x : Nat) : Int) = max 0 (min 200000 x) := by
  unfold clampLift
  omega

theorem cast_predictedLift (lift : Nat) (v : Int) (age : Nat) :
    ((predictedLift lift v age : Nat) : Int) = max 0 (min 200000 (lift + (v * age).tdiv 100)) :=
  cast_clampLift _

/-- The magnitude of the product of R82, which truncation then divides by 100. -/
theorem velocity_mul_age_bounds {v : Int} {age : Nat} (hlow : -999 ≤ v) (hhigh : v ≤ 999) (hage : age ≤ 100) :
    -99900 ≤ v * age ∧ v * age ≤ 99900 := by
  have hmul : |v * age| ≤ 999 * 100 := by
    rw [abs_mul, Nat.abs_cast]
    exact mul_le_mul (abs_le.mpr ⟨hlow, hhigh⟩) (by exact_mod_cast hage) (by positivity) (by norm_num)
  simpa using abs_le.mp hmul

/-- A FRESH member's entry that holds a lift has a prediction (R81). -/
theorem Entry.predict_of_fresh {e : Entry} {c : Content} {lift : Nat} {arrival : Time} (now : Time)
    (hmember : e.member = true) (hfresh : e.status = .fresh) (hcontent : e.content = some c)
    (hlift : c.lift = some lift) (harrival : e.lastArrival = some arrival) :
    e.predict now = some (c.bodyIndex, predictedLift lift c.velocity (ageMs now arrival)) := by
  simp [Entry.predict, hmember, hfresh, hcontent, hlift, harrival]

theorem State.mem_predictions {s : State} {n : Nat} {e : Entry} {p : Nat × Nat}
    (hget : Table.get s.peers.entries n = some e) (hp : e.predict s.now = some p) : p ∈ s.predictions :=
  List.mem_filterMap.mpr ⟨e, Table.get_mem _ n e hget, hp⟩

/-- Settles O29: truncation by the sign of the product, the product's magnitude, and the entry's place among the
predictions. -/
theorem predictionCarriesTheReportForward : Obligations.PredictionCarriesTheReportForward := by
  intro lift v age hlift hlow hhigh hage
  have hprod := velocity_mul_age_bounds hlow hhigh hage
  have hcast := cast_predictedLift lift v age
  rw [tdiv_hundred_eq_ite] at hcast
  dsimp only
  refine ⟨hcast, hprod, ?correction, ?sum,
    fun s n e c arrival hget hmember hfresh hcontent hl hv harrival hageOf => ?mem⟩
  case correction => split <;> omega
  case sum => split <;> omega
  case mem =>
    rw [← hcast, Int.toNat_natCast, ← hv, hageOf]
    exact s.mem_predictions hget (Entry.predict_of_fresh s.now hmember hfresh hcontent hl harrival)

/-! ## The demand formed from the lead -/

/-- The ranges of R191 that the demand of R90 rests on. -/
theorem Options.demand_ranges {o : Options} (h : o.inRange = true) :
    50 ≤ o.window ∧ o.window ≤ 2000 ∧ o.vRaise ≤ 1000 ∧ o.vLower ≤ 1000
      ∧ o.dMin ≤ o.vRaise / 2 ∧ o.dMin ≤ o.vLower / 2 := by
  simp only [Options.inRange, Bool.and_eq_true, decide_eq_true_eq] at h
  omega

/-- Halved or not (R86, R87), the ceiling in LIFTING and LOWERING lies within d_min..1000. -/
theorem StartUnit.ceiling_bounds {u : StartUnit} {o : Options} {st : StationState} (hconfig : u.config = some o)
    (hrange : o.inRange = true) (hst : st = .lifting ∨ st = .lowering) :
    o.dMin ≤ u.ceiling st ∧ u.ceiling st ≤ 1000 := by
  obtain ⟨-, -, hraise, hlower, hdMinRaise, hdMinLower⟩ := Options.demand_ranges hrange
  have hfull : o.dMin ≤ o.fullCeiling st / 2 ∧ o.fullCeiling st ≤ 1000 := by
    obtain rfl | rfl := hst
    · exact ⟨hdMinRaise, hraise⟩
    · exact ⟨hdMinLower, hlower⟩
  simp only [StartUnit.ceiling, hconfig]
  split <;> omega

theorem State.demand_eq_leadDemand (s : State) (o : Options) (c : Nat)
    (hst : s.ctrl.state = .lifting ∨ s.ctrl.state = .lowering) :
    s.demand o c = leadDemand o c (s.leadOf (if s.ctrl.state = .lifting then .up else .down)) := by
  obtain h | h := hst <;> simp [State.demand, h]

theorem leadDemand_of_window_le {o : Options} {e : Nat} (c : Nat) (h : o.window ≤ e) : leadDemand o c e = 0 := if_pos h

theorem leadDemand_of_lt_window {o : Options} {e : Nat} (c : Nat) (h : e < o.window) :
    leadDemand o c e = max o.dMin (c * (o.window - e) / o.window) := if_neg (by omega)

/-- The proportional term is at most the ceiling, since W - e is at most W. -/
theorem proportional_le_ceiling (c w e : Nat) : c * (w - e) / w ≤ c :=
  Nat.div_le_of_le_mul (by rw [Nat.mul_comm w c]; exact Nat.mul_le_mul_left c (Nat.sub_le w e))

theorem leadDemand_zero {o : Options} {c : Nat} (hw : 0 < o.window) (hc : o.dMin ≤ c) : leadDemand o c 0 = c := by
  rw [leadDemand_of_lt_window c hw, Nat.sub_zero, Nat.mul_div_cancel c hw, max_eq_right hc]

theorem leadDemand_window_sub_one {o : Options} {c : Nat} (hc : c < o.window) : leadDemand o c (o.window - 1) = o.dMin := by
  have hone : o.window - (o.window - 1) = 1 := by omega
  rw [leadDemand_of_lt_window c (by omega), hone, Nat.mul_one, Nat.div_eq_of_lt hc, Nat.max_zero]

/-- Settles O31: the ceiling is at least d_min by the ranges of R191, and the proportional term at most the ceiling. -/
theorem leadDemandLiesBetweenDMinAndCeiling : Obligations.LeadDemandLiesBetweenDMinAndCeiling := by
  intro s o e hconfig hrange hst
  obtain ⟨hdMin, hmax⟩ := StartUnit.ceiling_bounds hconfig hrange hst
  obtain ⟨hwindow, hwindowMax, -⟩ := Options.demand_ranges hrange
  have hprop := proportional_le_ceiling (s.start.ceiling s.ctrl.state) o.window e
  refine ⟨s.demand_eq_leadDemand o _ hst, leadDemand_of_window_le _, fun he => ?within,
    leadDemand_zero (by omega) hdMin, leadDemand_window_sub_one, hdMin, hprop, ?product⟩
  case within =>
    have hd := leadDemand_of_lt_window (s.start.ceiling s.ctrl.state) he
    exact ⟨hd, hd ▸ le_max_left _ _, hd ▸ max_le hdMin hprop⟩
  case product =>
    calc s.start.ceiling s.ctrl.state * (o.window - e)
      _ ≤ 1000 * 2000 := Nat.mul_le_mul hmax (by omega)
      _ = 2000000 := rfl

end Sys2Proof.Machine
end

section
/-! The group command (R140): a request table's scan, and what a lookup by station number finds in it. -/

namespace Sys2Proof.Machine

/-- What a table holds anywhere, it holds for some station number. -/
theorem Table.mem_iff_exists_get {α : Type} (t : Vector α 24) (x : α) :
    x ∈ t.toList ↔ ∃ n, Table.get t n = some x := by
  refine ⟨fun hmem => ?found, fun ⟨n, hget⟩ => Table.get_mem t n x hget⟩
  case found =>
    obtain ⟨i, hi, rfl⟩ := Vector.getElem_of_mem (Vector.mem_toList_iff.mp hmem)
    exact ⟨i + 1, Table.get_of_range t (i + 1) ⟨by omega, by omega⟩⟩

theorem Slot.holds_iff (k : RequestKind) (slot : Option Slot) :
    Slot.holds k slot = true ↔ ∃ x, slot = some x ∧ x.kind = k := by
  cases slot <;> simp [Slot.holds]

/-- The scan for a kind finds a slot exactly where some station number's slot holds that kind. -/
theorem Slot.any_holds_iff (k : RequestKind) (slots : Vector (Option Slot) 24) :
    slots.toList.any (Slot.holds k) = true ↔ ∃ n x, Table.get slots n = some (some x) ∧ x.kind = k := by
  simp only [List.any_eq_true, Slot.holds_iff, Table.mem_iff_exists_get]
  constructor
  · rintro ⟨_, ⟨n, hget⟩, x, rfl, hkind⟩
    exact ⟨n, x, hget, hkind⟩
  · rintro ⟨n, x, hget, hkind⟩
    exact ⟨some x, ⟨n, hget⟩, x, rfl, hkind⟩

/-- The table of R140, read from each group command back to the kinds found. -/
theorem Slot.command_iff (slots : Vector (Option Slot) 24) :
    let has := fun k => slots.toList.any (Slot.holds k) = true
    (Slot.command slots = .none ↔ ¬has .raise ∧ ¬has .lower)
      ∧ (Slot.command slots = .raise ↔ has .raise ∧ ¬has .lower)
      ∧ (Slot.command slots = .lower ↔ ¬has .raise ∧ has .lower)
      ∧ (Slot.command slots = .conflict ↔ has .raise ∧ has .lower) := by
  unfold Slot.command
  split <;> next hraise hlower => simp [hraise, hlower]

/-- Settles O48: the command is formed from the two scans, and each scan finds what the lookups find. -/
theorem groupCommandFollowsFromTheTable : Obligations.GroupCommandFollowsFromTheTable := by
  intro s
  simp only [← Slot.any_holds_iff]
  exact Slot.command_iff s.request.slots

end Sys2Proof.Machine
end

section
/-! The chain of transitions (R4): what each state's step reads, where the chain ends, and how the station settles there. -/

namespace Sys2Proof.Machine

/-! ## What the predicates read -/

@[simp] theorem State.withState_command (s : State) (st : StationState) : (s.withState st).command = s.command := rfl
@[simp] theorem State.withState_assemblyHolds (s : State) (st : StationState) :
    (s.withState st).assemblyHolds = s.assemblyHolds := rfl
@[simp] theorem State.withState_groupAssembled (s : State) (st : StationState) :
    (s.withState st).groupAssembled = s.groupAssembled := rfl
@[simp] theorem State.withState_membersPoised (s : State) (st : StationState) :
    (s.withState st).membersPoised = s.membersPoised := rfl
@[simp] theorem State.withState_membersLanded (s : State) (st : StationState) :
    (s.withState st).membersLanded = s.membersLanded := rfl
@[simp] theorem State.withState_withState (s : State) (st st' : StationState) :
    (s.withState st).withState st' = s.withState st' := rfl

theorem State.withState_self (s : State) (st : StationState) (h : s.ctrl.state = st) : s.withState st = s := by
  subst h; rfl

theorem State.poised_eq (s : State) : s.poised = (s.ctrl.state.isPoised && s.membersPoised) := rfl

theorem State.landed_eq (s : State) : s.landed = (s.ctrl.state.isLandable && s.membersLanded) := by
  simp [State.landed, State.membersLanded, Bool.and_assoc]

/-- An emptied request table gives the command NONE. -/
theorem Slot.command_replicate : Slot.command (Vector.replicate 24 none) = .none := by decide

@[simp] theorem State.clearFlag_command (s : State) : s.clearFlag.command = .none := Slot.command_replicate

theorem Entry.eligible_setMember (e : Entry) (own : Option Word16) (b : Bool) :
    ({ e with member := b } : Entry).eligible own = e.eligible own := rfl

theorem Entry.sound_setMember (e : Entry) (own : Option Word16) (b : Bool) :
    ({ e with member := b } : Entry).sound own = e.sound own := rfl

@[simp] theorem Entry.eligible_unmark (e : Entry) (own : Option Word16) : e.unmark.eligible own = e.eligible own := rfl

@[simp] theorem State.clearFlag_eligibleCount (s : State) : s.clearFlag.eligibleCount = s.eligibleCount := by
  simp [State.eligibleCount, Table.toList_map, List.countP_map, Function.comp_def]

@[simp] theorem State.clearFlag_groupAssembled (s : State) : s.clearFlag.groupAssembled = s.groupAssembled := by
  unfold State.groupAssembled
  rw [State.clearFlag_eligibleCount]
  rfl

@[simp] theorem State.enterAssembling_groupAssembled (s : State) :
    s.enterAssembling.groupAssembled = s.groupAssembled := s.clearFlag_groupAssembled

@[simp] theorem State.clearFlag_assembled (s : State) : s.clearFlag.ctrl.assembled = false := rfl

theorem State.clashHeld_of_groupAssembled (s : State) (h : s.groupAssembled = true) : s.peers.clashHeld = false := by
  unfold State.groupAssembled at h
  split at h <;> simp_all

/-- A completed assembly holds: its members are the eligible entries, which are sound. -/
theorem State.enterAssembled_assemblyHolds (s : State) (h : s.groupAssembled = true) :
    s.enterAssembled.assemblyHolds = true := by
  have hclash : s.enterAssembled.peers.clashHeld = false := s.clashHeld_of_groupAssembled h
  have hstart : s.enterAssembled.start = s.start := rfl
  have hsound : ∀ e ∈ s.peers.entries.toList, e.eligible s.start.digest = true → e.sound s.start.digest = true :=
    fun e _ he => by simpa [Entry.eligible] using (Bool.and_eq_true _ _ ▸ he).1
  have hentries : s.enterAssembled.peers.entries.toList
      = s.peers.entries.toList.map (Entry.markIfEligible s.start.digest) := Table.toList_map _ _
  simp only [State.assemblyHolds, hclash, hstart, hentries, Bool.not_false, Bool.true_and, List.all_map,
    List.all_eq_true, Function.comp_def]
  intro e he
  cases hel : e.eligible s.start.digest with
  | false => simp [Entry.markIfEligible, hel]
  | true => simpa [Entry.markIfEligible, hel, Entry.sound_setMember] using hsound e he hel

/-- Without members every assembly holds but for a number clash. -/
theorem State.clearFlag_assemblyHolds (s : State) : s.clearFlag.assemblyHolds = !s.peers.clashHeld := by
  simp [State.assemblyHolds, Table.toList_map, Entry.unmark, PeerTable.clashHeld]

/-! ## One step by the present state -/

section Steps

variable {s : State}

theorem State.chainStep_assembling (h : s.ctrl.state = .assembling) :
    s.chainStep = if s.groupAssembled then s.enterAssembled else s := by simp [State.chainStep, h]

theorem State.chainStep_ready (h : s.ctrl.state = .ready) :
    s.chainStep = if s.assemblyHolds then (if s.command = .raise then s.withState .seating else s)
      else s.enterAssembling := by
  cases ha : s.assemblyHolds <;> simp [State.chainStep, h, ha]

theorem State.chainStep_jog (h : s.ctrl.state = .jog) :
    s.chainStep = if s.ctrl.assembled && !s.assemblyHolds then s.clearFlag else s := by simp [State.chainStep, h]

theorem State.chainStep_seating (h : s.ctrl.state = .seating) :
    s.chainStep = if s.command = .raise then s
      else if s.assemblyHolds then s.withState .ready else s.enterAssembling := by
  simp [State.chainStep, h, State.enterReady]

theorem State.chainStep_holding (h : s.ctrl.state = .holding) :
    s.chainStep = s.withState (s.command.leadsTo s.membersPoised s.membersLanded) := by
  cases hc : s.command <;> cases hp : s.membersPoised <;> cases hl : s.membersLanded <;>
    simp [State.chainStep, h, hc, hp, hl, State.poised_eq, State.landed_eq, StationState.isPoised,
      StationState.isLandable, GroupCommand.leadsTo, s.withState_self .holding h]

theorem State.chainStep_lifting (h : s.ctrl.state = .lifting) :
    s.chainStep = if s.command = .raise ∧ s.membersPoised = true then s else s.withState .holding := by
  simp [State.chainStep, h, State.poised_eq, StationState.isPoised]

theorem State.chainStep_lowering (h : s.ctrl.state = .lowering) :
    s.chainStep = if s.command = .lower then
        (if s.membersLanded then s.withState .unseating else if s.membersPoised then s else s.withState .holding)
      else s.withState .holding := by
  simp [State.chainStep, h, State.poised_eq, State.landed_eq, StationState.isPoised, StationState.isLandable]

theorem State.chainStep_unseating (h : s.ctrl.state = .unseating) :
    s.chainStep = if s.command = .raise then s.withState .holding else s := by simp [State.chainStep, h]

theorem State.chainStep_parked (h : s.ctrl.state = .parked) :
    s.chainStep = if s.command = .none then s else s.withState .holding := by simp [State.chainStep, h]

end Steps

/-! ## Where the chain ends -/

/-- A chain that has come to rest after two transitions ends there. -/
theorem State.chain_of_two {s u t : State} (hfirst : s.chainStep = u) (hsecond : u.chainStep = t)
    (hrest : t.chainStep = t) : s.chain = t := by
  simp only [State.chain, hfirst, hsecond, hrest]

theorem State.chain_of_rest {s : State} (hrest : s.chainStep = s) : s.chain = s := State.chain_of_two hrest hrest hrest

/-- What the chain leaves where no assembly is completed or lost: the state alone is written. -/
abbrev State.RestsAt (s : State) (st : StationState) : Prop :=
  s.chain = s.withState st ∧ (s.withState st).chainStep = s.withState st

/-- Where HOLDING leads there is no further transition. -/
theorem State.leadsTo_rests (s : State) :
    (s.withState (s.command.leadsTo s.membersPoised s.membersLanded)).chainStep
      = s.withState (s.command.leadsTo s.membersPoised s.membersLanded) := by
  have hholding := State.chainStep_holding (s := s.withState .holding) rfl
  have hlifting := State.chainStep_lifting (s := s.withState .lifting) rfl
  have hlowering := State.chainStep_lowering (s := s.withState .lowering) rfl
  have hunseating := State.chainStep_unseating (s := s.withState .unseating) rfl
  cases hc : s.command <;> cases hp : s.membersPoised <;> cases hl : s.membersLanded <;>
    simp [GroupCommand.leadsTo, hholding, hlifting, hlowering, hunseating, hc, hp, hl]

/-- A station that comes to HOLDING, or stands there, goes where the command leads. -/
theorem State.restsAt_of_holding {s : State} (h : s.chainStep = s.withState .holding) :
    s.RestsAt (s.command.leadsTo s.membersPoised s.membersLanded) :=
  ⟨State.chain_of_two h (State.chainStep_holding rfl) s.leadsTo_rests, s.leadsTo_rests⟩

theorem State.restsAt_of_leadsTo {s : State}
    (h : s.chainStep = s.withState (s.command.leadsTo s.membersPoised s.membersLanded)) :
    s.RestsAt (s.command.leadsTo s.membersPoised s.membersLanded) :=
  ⟨State.chain_of_two h s.leadsTo_rests s.leadsTo_rests, s.leadsTo_rests⟩

theorem State.restsAt_self {s : State} {st : StationState} (hst : s.ctrl.state = st) (h : s.chainStep = s) :
    s.RestsAt st := by
  rw [State.RestsAt, s.withState_self st hst]
  exact ⟨State.chain_of_rest h, h⟩

/-- The part where the chain ends: the state of the tables, and what a completed or a lost assembly writes. -/
def State.rested (s : State) : State :=
  { s with
    ctrl := { s.ctrl with
      state := s.restsIn
      assembled := s.completesAssembly || (s.ctrl.assembled && !s.losesAssembly)
      fresh := s.ctrl.fresh && !s.completesAssembly }
    peers := { s.peers with entries :=
      if s.completesAssembly then Table.map (Entry.markIfEligible s.start.digest) s.peers.entries
      else if s.losesAssembly then Table.map Entry.unmark s.peers.entries
      else s.peers.entries }
    request := if s.losesAssembly then { s.request with slots := Vector.replicate 24 none, sequence := none }
      else s.request }

/-- The chain ends in a given part, which takes no transition. -/
abbrev State.ComesTo (s t : State) : Prop := s.chain = t ∧ t.chainStep = t

theorem State.rested_of_kept {s : State} (hc : s.completesAssembly = false) (hl : s.losesAssembly = false) :
    s.rested = s.withState s.restsIn := by
  simp [State.rested, hc, hl, State.withState]

/-- Marking looks at what unmarking leaves. -/
theorem Table.map_mark_unmark (own : Option Word16) (t : Vector Entry 24) :
    Table.map (Entry.markIfEligible own) (Table.map Entry.unmark t) = Table.map (Entry.markIfEligible own) t := by
  simp [Table.map, Function.comp_def, Entry.markIfEligible, Entry.unmark, Entry.eligible_setMember]

theorem State.comesTo_assembling {s : State} (h : s.ctrl.state = .assembling) : s.ComesTo s.rested := by
  have hstep := State.chainStep_assembling h
  have hl : s.losesAssembly = false := by simp [State.losesAssembly, h]
  cases hg : s.groupAssembled with
  | false =>
    have hc : s.completesAssembly = false := by simp [State.completesAssembly, hg]
    have hr : s.restsIn = .assembling := by simp [State.restsIn, h, hc]
    rw [State.rested_of_kept hc hl, hr]
    exact State.restsAt_self h (by simp [hstep, hg])
  | true =>
    have hc : s.completesAssembly = true := by simp [State.completesAssembly, hg, h]
    have hready := State.chainStep_ready (s := s.enterAssembled) rfl
    have hseating := State.chainStep_seating (s := s.enterAssembled.withState .seating) rfl
    have hcommand : s.enterAssembled.command = s.command := rfl
    have hfirst : s.chainStep = s.enterAssembled := by simp [hstep, hg]
    rw [s.enterAssembled_assemblyHolds hg, hcommand] at hready
    rw [State.withState_command, hcommand] at hseating
    by_cases hraise : s.command = .raise
    · have hr : s.rested = s.enterAssembled.withState .seating := by
        simp [State.rested, hc, hl, State.restsIn, h, hraise, State.enterAssembled, State.withState]
      simp only [hraise, if_true] at hready hseating
      exact hr ▸ ⟨State.chain_of_two hfirst hready hseating, hseating⟩
    · have hr : s.rested = s.enterAssembled := by
        simp [State.rested, hc, hl, State.restsIn, h, hraise, State.enterAssembled]
      simp only [hraise, if_true, if_false] at hready
      exact hr ▸ ⟨State.chain_of_two hfirst hready hready, hready⟩

/-- A lost assembly in READY or SEATING: ASSEMBLING, and READY again where the group is assembled. -/
theorem State.comesTo_lost {s : State} (h : s.ctrl.state = .ready ∨ s.ctrl.state = .seating)
    (hl : s.losesAssembly = true) (hstep : s.chainStep = s.enterAssembling) : s.ComesTo s.rested := by
  have hassembling := State.chainStep_assembling (s := s.enterAssembling) rfl
  rw [s.enterAssembling_groupAssembled] at hassembling
  have hjog : s.ctrl.state ≠ .jog := by rcases h with h | h <;> simp [h]
  have hc : s.completesAssembly = s.groupAssembled := by simp [State.completesAssembly, hl, hjog]
  cases hg : s.groupAssembled with
  | false =>
    have hr : s.rested = s.enterAssembling := by
      rcases h with h | h <;>
        simp [State.rested, hc, hl, hg, State.restsIn, h, State.enterAssembling, State.withState, State.clearFlag]
    simp only [hg] at hassembling
    exact hr ▸ ⟨State.chain_of_two hstep hassembling hassembling, hassembling⟩
  | true =>
    have hready := State.chainStep_ready (s := s.enterAssembling.enterAssembled) rfl
    have hcommand : s.enterAssembling.enterAssembled.command = .none := s.clearFlag_command
    rw [s.enterAssembling.enterAssembled_assemblyHolds (by simp [hg]), hcommand] at hready
    have hr : s.rested = s.enterAssembling.enterAssembled := by
      rcases h with h | h <;>
        simp [State.rested, hc, hl, hg, State.restsIn, h, State.enterAssembling, State.enterAssembled, State.withState,
          State.clearFlag, Table.map_mark_unmark]
    simp only [hg, if_true] at hassembling
    simp only [if_true, reduceCtorEq, if_false] at hready
    exact hr ▸ ⟨State.chain_of_two hstep hassembling hready, hready⟩

theorem State.completesAssembly_eq_false {s : State} (h : s.ctrl.state ≠ .assembling) (hl : s.losesAssembly = false) :
    s.completesAssembly = false := by
  simp [State.completesAssembly, h, hl]

theorem State.comesTo_ready {s : State} (h : s.ctrl.state = .ready) : s.ComesTo s.rested := by
  have hstep := State.chainStep_ready h
  cases ha : s.assemblyHolds with
  | false => exact State.comesTo_lost (.inl h) (by simp [State.losesAssembly, ha, h]) (by simp [hstep, ha])
  | true =>
    have hl : s.losesAssembly = false := by simp [State.losesAssembly, ha]
    rw [State.rested_of_kept (State.completesAssembly_eq_false (by simp [h]) hl) hl]
    by_cases hraise : s.command = .raise
    · have hr : s.restsIn = .seating := by simp [State.restsIn, h, hl, hraise]
      have hseating := State.chainStep_seating (s := s.withState .seating) rfl
      rw [State.withState_command, if_pos hraise] at hseating
      rw [hr]
      exact ⟨State.chain_of_two (by simp [hstep, ha, hraise]) hseating hseating, hseating⟩
    · have hr : s.restsIn = .ready := by simp [State.restsIn, h, hl, hraise]
      exact hr ▸ State.restsAt_self h (by simp [hstep, ha, hraise])

theorem State.comesTo_seating {s : State} (h : s.ctrl.state = .seating) : s.ComesTo s.rested := by
  have hstep := State.chainStep_seating h
  by_cases hraise : s.command = .raise
  · have hl : s.losesAssembly = false := by simp [State.losesAssembly, h, hraise]
    have hr : s.restsIn = .seating := by simp [State.restsIn, h, hl, hraise]
    rw [State.rested_of_kept (State.completesAssembly_eq_false (by simp [h]) hl) hl, hr]
    exact State.restsAt_self h (by simp [hstep, hraise])
  · cases ha : s.assemblyHolds with
    | false =>
      exact State.comesTo_lost (.inr h) (by simp [State.losesAssembly, ha, h, hraise]) (by simp [hstep, ha, hraise])
    | true =>
      have hl : s.losesAssembly = false := by simp [State.losesAssembly, ha]
      have hr : s.restsIn = .ready := by simp [State.restsIn, h, hl, hraise]
      have hready := State.chainStep_ready (s := s.withState .ready) rfl
      simp only [State.withState_command, State.withState_assemblyHolds, ha, hraise, if_true, if_false] at hready
      rw [State.rested_of_kept (State.completesAssembly_eq_false (by simp [h]) hl) hl, hr]
      exact ⟨State.chain_of_two (by simp [hstep, ha, hraise]) hready hready, hready⟩

theorem State.comesTo_jog {s : State} (h : s.ctrl.state = .jog) : s.ComesTo s.rested := by
  have hstep := State.chainStep_jog h
  have hloses : s.losesAssembly = (s.ctrl.assembled && !s.assemblyHolds) := by
    simp [State.losesAssembly, h, Bool.and_comm]
  have hc : s.completesAssembly = false := by simp [State.completesAssembly, h]
  have hr : s.restsIn = .jog := by simp [State.restsIn, h]
  cases hl : s.losesAssembly with
  | false =>
    rw [State.rested_of_kept hc hl, hr]
    exact State.restsAt_self h (by rw [hstep, ← hloses, hl]; simp)
  | true =>
    have hcleared := State.chainStep_jog (s := s.clearFlag) h
    simp only [State.clearFlag_assembled, Bool.false_and] at hcleared
    have hrested : s.rested = s.clearFlag := by simp [State.rested, hc, hl, hr, ← h, State.clearFlag]
    exact hrested ▸ ⟨State.chain_of_two (by rw [hstep, ← hloses, hl]; simp) hcleared hcleared, hcleared⟩

/-- Outside ASSEMBLING, READY, SEATING and JOG no assembly is completed or lost. -/
theorem State.rested_of_outside {s : State} {st : StationState} (hr : s.restsIn = st)
    (h : s.ctrl.state ≠ .assembling ∧ s.ctrl.state ≠ .ready ∧ s.ctrl.state ≠ .seating ∧ s.ctrl.state ≠ .jog) :
    s.rested = s.withState st := by
  obtain ⟨hassembling, hready, hseating, hjog⟩ := h
  have hl : s.losesAssembly = false := by
    unfold State.losesAssembly
    split <;> simp_all
  rw [State.rested_of_kept (State.completesAssembly_eq_false hassembling hl) hl, hr]

/-- The chain ends in the part of the tables, in which no condition holds. -/
theorem State.comesTo_rested (s : State) : s.ComesTo s.rested := by
  cases h : s.ctrl.state with
  | assembling => exact State.comesTo_assembling h
  | ready => exact State.comesTo_ready h
  | seating => exact State.comesTo_seating h
  | jog => exact State.comesTo_jog h
  | start | configFault | halted =>
    rw [State.rested_of_outside (st := s.ctrl.state) (by simp [State.restsIn, h]) (by simp [h])]
    exact State.restsAt_self rfl (s.chainStep_resting (by simp [h, StationState.isResting]))
  | holding =>
    rw [State.rested_of_outside (by simp [State.restsIn, h]; rfl) (by simp [h])]
    exact State.restsAt_of_leadsTo (State.chainStep_holding h)
  | lifting =>
    rw [State.rested_of_outside (by simp [State.restsIn, h]; rfl) (by simp [h])]
    have hstep := State.chainStep_lifting h
    by_cases hstays : s.command = .raise ∧ s.membersPoised = true
    · have hlead : s.command.leadsTo s.membersPoised s.membersLanded = .lifting := by
        simp [GroupCommand.leadsTo, hstays]
      rw [hlead]
      exact State.restsAt_self h (by simp [hstep, hstays])
    · exact State.restsAt_of_holding (by simp [hstep, hstays])
  | lowering =>
    rw [State.rested_of_outside (by simp [State.restsIn, h]; rfl) (by simp [h])]
    have hstep := State.chainStep_lowering h
    by_cases hlower : s.command = .lower
    · cases hl : s.membersLanded with
      | true => exact hl ▸ State.restsAt_of_leadsTo (by simp [hstep, hlower, hl, GroupCommand.leadsTo])
      | false =>
        cases hp : s.membersPoised with
        | true =>
          have hlead : s.command.leadsTo true false = .lowering := by simp [GroupCommand.leadsTo, hlower]
          exact hlead ▸ State.restsAt_self h (by simp [hstep, hlower, hl, hp])
        | false =>
          have := State.restsAt_of_holding (s := s) (by simp [hstep, hlower, hl, hp])
          rwa [hp, hl] at this
    · exact State.restsAt_of_holding (by simp [hstep, hlower])
  | parked =>
    have hstep := State.chainStep_parked h
    by_cases hnone : s.command = .none
    · rw [State.rested_of_outside (st := .parked) (by simp [State.restsIn, h, hnone]) (by simp [h])]
      exact State.restsAt_self h (by simp [hstep, hnone])
    · rw [State.rested_of_outside (by simp [State.restsIn, h, hnone]; rfl) (by simp [h])]
      exact State.restsAt_of_holding (by simp [hstep, hnone])
  | unseating =>
    have hstep := State.chainStep_unseating h
    by_cases hraise : s.command = .raise
    · rw [State.rested_of_outside (by simp [State.restsIn, h, if_pos hraise]; rfl) (by simp [h])]
      exact State.restsAt_of_holding (by simp [hstep, hraise])
    · rw [State.rested_of_outside (st := .unseating) (by simp [State.restsIn, h, hraise]) (by simp [h])]
      exact State.restsAt_self h (by simp [hstep, hraise])

theorem State.chain_eq_rested (s : State) : s.chain = s.rested := s.comesTo_rested.1

/-! ## Settling -/

theorem State.settleFrom_ctrl (s : State) (old : StationState) :
    (s.settleFrom old).ctrl = { s.chain.ctrl with
      parkTimer := s.chain.ctrl.parkAfter s.chain.now s.chain.start.parkTime s.chain.command
      readyLamp := s.chain.ctrl.readyLampLit } := by
  simp only [State.settleFrom, State.refresh_ctrl, State.handOn_frame, State.command]

/-- A lost assembly does not lead to HOLDING. -/
theorem State.restsIn_ne_holding_of_lost {s : State} (h : s.losesAssembly = true) : s.restsIn ≠ .holding := by
  unfold State.restsIn
  cases hst : s.ctrl.state <;> simp_all [State.losesAssembly]
  all_goals split <;> simp

/-- The park timer runs by the command that stands before the chain: the chain empties the table only where it does not
end in HOLDING. -/
theorem State.rested_parkAfter (s : State) :
    s.rested.ctrl.parkAfter s.rested.now s.rested.start.parkTime s.rested.command
      = if s.restsIn = .holding ∧ s.command = .none then some (s.ctrl.parkTimer.getD (s.now + s.start.parkTime))
        else none := by
  cases hl : s.losesAssembly with
  | true => simp [Controller.parkAfter, State.rested, State.restsIn_ne_holding_of_lost hl]
  | false =>
    have hcommand : s.rested.command = s.command := by simp [State.command, State.rested, hl]
    rw [hcommand]
    rfl

/-- Whatever state a change is handed on from, the station comes to rest by the tables. -/
theorem State.settlesFrom_settleFrom (s : State) (old : StationState) : SettlesFrom s (s.settleFrom old) := by
  refine ⟨?ctrl, ?entries, ?request, ?lamp⟩
  case ctrl =>
    have hnow : (s.settleFrom old).now = s.now := (s.settleFrom_frame old).1
    have hctrl : (s.settleFrom old).ctrl = { s.rested.ctrl with
        parkTimer := s.rested.ctrl.parkAfter s.rested.now s.rested.start.parkTime s.rested.command
        readyLamp := s.rested.ctrl.readyLampLit } := by
      rw [← s.chain_eq_rested]
      exact s.settleFrom_ctrl old
    rw [hnow, hctrl, s.rested_parkAfter]
    rfl
  case entries =>
    simp only [State.settleFrom_frame, State.chain_eq_rested, State.rested]
    split
    · exact Table.toList_map _ _
    · split
      · exact Table.toList_map _ _
      · rfl
  case request => simp only [State.settleFrom_frame, State.chain_eq_rested, State.rested]
  case lamp =>
    simp only [State.settleFrom, State.refresh_halt, State.refresh_ctrl, State.handOn_frame]
    rfl

/-- Settles O4: the fixed point of the chain, the state of the tables, and what settling writes. -/
theorem chainEndsWhereNoConditionHolds : Obligations.ChainEndsWhereNoConditionHolds := by
  intro s
  rw [s.chain_eq_rested]
  exact ⟨s.comesTo_rested.2, rfl, s.settlesFrom_settleFrom _⟩

end Sys2Proof.Machine
end

section
/-! What settling and an entry to HALTED write, block by block. -/

namespace Sys2Proof.Machine

/-! ## A change of state handed on, block by block -/

theorem State.handOn_of_same {s : State} {old : StationState} (h : s.ctrl.state = old) : s.handOn old = s := by
  simp [State.handOn, h]

/-- The drive unit after a change handed on: the engine's output handed over, then the brake rule. -/
theorem State.handOn_drive {s : State} {old : StationState} (h : s.ctrl.state ≠ old) :
    (s.handOn old).drive
      = (s.drive.handOver s.start.dMin s.meas.stroke (s.handOn old).engine.commanded
          (s.handOn old).engine.direction).stateChange s.now s.start.releaseTime s.meas.stroke old s.ctrl.state := by
  rw [s.handOn_engine old]
  unfold State.handOn
  simp only [h, if_false]
  split <;> rfl

theorem State.handOn_engine_of_ne {s : State} {old : StationState} (h : s.ctrl.state ≠ old) :
    (s.handOn old).engine
      = s.engine.stateChange (s.start.ceiling s.ctrl.state) (s.ctrl.state.motion s.ctrl.jogDirection) := by
  rw [s.handOn_engine old, if_neg h]

/-! ## Settling, block by block -/

section Settle

variable (s : State) (old : StationState)

@[simp] theorem State.settleFrom_now : (s.settleFrom old).now = s.now := (s.settleFrom_frame old).1
@[simp] theorem State.settleFrom_start : (s.settleFrom old).start = s.start := (s.settleFrom_frame old).2.1
@[simp] theorem State.settleFrom_pending : (s.settleFrom old).pending = s.pending := (s.settleFrom_frame old).2.2.1

theorem State.settleFrom_state : (s.settleFrom old).ctrl.state = s.restsIn := by
  rw [(s.settleFrom_frame old).2.2.2.1, s.chain_eq_rested]
  rfl

theorem State.settleFrom_peers : (s.settleFrom old).peers = s.rested.peers := by
  rw [(s.settleFrom_frame old).2.2.2.2.1, s.chain_eq_rested]

theorem State.settleFrom_request : (s.settleFrom old).request = s.rested.request := by
  rw [(s.settleFrom_frame old).2.2.2.2.2, s.chain_eq_rested]

theorem State.settleFrom_halt_eq :
    (s.settleFrom old).halt = { s.halt with faultLamp := s.restsIn.faultLampLit } := by
  simp only [State.settleFrom, State.refresh_halt, State.handOn_frame, s.chain_eq_rested]
  rfl

theorem State.settleFrom_handOn :
    (s.settleFrom old).engine = (s.rested.handOn old).engine ∧ (s.settleFrom old).drive = (s.rested.handOn old).drive
      ∧ (s.settleFrom old).meas = (s.rested.handOn old).meas ∧ (s.settleFrom old).bus = (s.rested.handOn old).bus := by
  simp only [State.settleFrom, s.chain_eq_rested]
  exact ⟨rfl, rfl, rfl, rfl⟩

@[simp] theorem State.settleFrom_jogDirection : (s.settleFrom old).ctrl.jogDirection = s.ctrl.jogDirection := by
  rw [s.settleFrom_ctrl old, s.chain_eq_rested]
  rfl

@[simp] theorem State.settleFrom_contact : (s.settleFrom old).ctrl.contact = s.ctrl.contact := by
  rw [s.settleFrom_ctrl old, s.chain_eq_rested]
  rfl

theorem State.settleFrom_meas :
    (s.settleFrom old).meas = if s.restsIn = old then s.meas else s.meas.stateChange old s.restsIn := by
  rw [(s.settleFrom_handOn old).2.2.1, State.handOn_meas]
  rfl

theorem State.settleFrom_engine :
    (s.settleFrom old).engine = if s.restsIn = old then s.engine
      else s.engine.stateChange (s.start.ceiling s.restsIn) (s.restsIn.motion s.ctrl.jogDirection) := by
  rw [(s.settleFrom_handOn old).1, State.handOn_engine]
  rfl

theorem State.settleFrom_drive :
    (s.settleFrom old).drive = if s.restsIn = old then s.drive
      else (s.drive.handOver s.start.dMin s.meas.stroke (s.settleFrom old).engine.commanded
        (s.settleFrom old).engine.direction).stateChange s.now s.start.releaseTime s.meas.stroke old s.restsIn := by
  rw [(s.settleFrom_handOn old).2.1, (s.settleFrom_handOn old).1]
  split
  · next h => exact (congrArg State.drive (State.handOn_of_same (s := s.rested) h)).trans rfl
  · next h => exact State.handOn_drive (s := s.rested) h

theorem State.settleFrom_bus :
    (s.settleFrom old).bus = if s.restsIn ≠ old ∧ asksPrompt old s.restsIn = true
      then s.bus.askPrompt s.now s.restsIn.period (old == .parked || s.restsIn == .parked) else s.bus := by
  rw [(s.settleFrom_handOn old).2.2.2, State.handOn_bus]
  rfl

end Settle

/-- The chain never enters START, CONFIG_FAULT or HALTED. -/
theorem State.restsIn_resting {s : State} (h : s.restsIn.isResting = true) : s.restsIn = s.ctrl.state := by
  revert h
  unfold State.restsIn GroupCommand.leadsTo
  cases s.ctrl.state <;> dsimp only <;> repeat' split
  all_goals simp [StationState.isResting]

theorem State.restsIn_of_resting {s : State} (h : s.ctrl.state.isResting = true) : s.restsIn = s.ctrl.state := by
  unfold State.restsIn
  cases hst : s.ctrl.state <;> simp_all [StationState.isResting]

theorem State.restsIn_isOperating (s : State) : s.restsIn.isOperating = s.ctrl.state.isOperating := by
  unfold State.restsIn GroupCommand.leadsTo
  cases hst : s.ctrl.state <;> dsimp only <;> repeat' split
  all_goals rfl

/-! ## A part at rest -/

/-- No transition's condition holds: the tables give the present state, and no assembly is completed or lost. -/
def State.AtRest (s : State) : Prop :=
  s.restsIn = s.ctrl.state ∧ s.completesAssembly = false ∧ s.losesAssembly = false

theorem State.AtRest.chain_eq {s : State} (h : s.AtRest) : s.chain = s := by
  obtain ⟨hstate, hcompletes, hloses⟩ := h
  rw [s.chain_eq_rested, State.rested_of_kept hcompletes hloses, hstate]
  rfl

theorem State.losesAssembly_of_rest {s : State} (h : s.chainStep = s) : s.losesAssembly = false := by
  have hassembling : s.enterAssembling = s → s.ctrl.state = .assembling := fun he => he ▸ rfl
  have hcleared : s.clearFlag = s → s.ctrl.assembled = false := fun he => he ▸ rfl
  cases ha : s.assemblyHolds with
  | true => simp [State.losesAssembly, ha]
  | false =>
    cases hst : s.ctrl.state with
    | ready => rw [State.chainStep_ready hst, ha] at h; simp [hst] at hassembling; simp_all
    | seating =>
      rw [State.chainStep_seating hst, ha] at h
      by_cases hraise : s.command = .raise
      · simp [State.losesAssembly, hst, hraise]
      · simp [hst] at hassembling; simp_all
    | jog => rw [State.chainStep_jog hst, ha] at h; cases hb : s.ctrl.assembled <;> simp_all [State.losesAssembly]
    | _ => simp [State.losesAssembly, hst]

theorem State.atRest_of_chainStep {s : State} (h : s.chainStep = s) : s.AtRest := by
  have hloses := State.losesAssembly_of_rest h
  refine ⟨?state, ?completes, hloses⟩
  case state => exact congrArg (fun t => t.ctrl.state) (s.chain_eq_rested.symm.trans (State.chain_of_rest h))
  case completes =>
    by_cases hst : s.ctrl.state = .assembling
    · rw [State.chainStep_assembling hst] at h
      cases hg : s.groupAssembled with
      | false => simp [State.completesAssembly, hg]
      | true =>
        have hready : s.enterAssembled = s := by simpa [hg] using h
        have : s.ctrl.state = .ready := hready ▸ rfl
        simp [hst] at this
    · exact State.completesAssembly_eq_false hst hloses

theorem State.rested_atRest (s : State) : s.rested.AtRest := State.atRest_of_chainStep s.comesTo_rested.2

/-- The chain reads of the state controller only the state, the flag and the contact record, and of the other blocks the
start unit, the stroke, the peer table and the request table. -/
theorem State.AtRest.congr {s t : State} (h : s.AtRest) (hstate : t.ctrl.state = s.ctrl.state)
    (hassembled : t.ctrl.assembled = s.ctrl.assembled) (hcontact : t.ctrl.contact = s.ctrl.contact)
    (hstart : t.start = s.start) (hstroke : t.meas.stroke = s.meas.stroke) (hpeers : t.peers = s.peers)
    (hslots : t.request.slots = s.request.slots) : t.AtRest := by
  have hcommand : t.command = s.command := congrArg Slot.command hslots
  have hholds : t.assemblyHolds = s.assemblyHolds := by simp only [State.assemblyHolds, hpeers, hstart]
  have hgroup : t.groupAssembled = s.groupAssembled := by
    unfold State.groupAssembled State.eligibleCount
    rw [hpeers, hstart]
  have hpoised : t.membersPoised = s.membersPoised := by simp only [State.membersPoised, hpeers]
  have hlanded : t.membersLanded = s.membersLanded := by
    simp only [State.membersLanded, State.ownLift, State.unclampedLift, hpeers, hcontact, hstroke]
  have hloses : t.losesAssembly = s.losesAssembly := by
    simp only [State.losesAssembly, hholds, hcommand, hassembled, hstate]
  have hcompletes : t.completesAssembly = s.completesAssembly := by
    simp only [State.completesAssembly, hgroup, hloses, hstate]
  have hrests : t.restsIn = s.restsIn := by
    simp only [State.restsIn, hstate, hcommand, hpoised, hlanded, hcompletes, hloses]
  rw [State.AtRest, hrests, hcompletes, hloses, hstate]
  exact h

/-- A settled part is at rest. -/
theorem State.settleFrom_atRest (s : State) (old : StationState) : (s.settleFrom old).AtRest := by
  refine s.rested_atRest.congr (s.settleFrom_state old) ?_ ?_ (s.settleFrom_start old) (s.settleFrom_measured old).1
    (s.settleFrom_peers old) (congrArg RequestUnit.slots (s.settleFrom_request old))
  · rw [s.settleFrom_ctrl old, s.chain_eq_rested]
  · rw [s.settleFrom_contact old]; rfl

theorem State.AtRest.settle_eq {s : State} (h : s.AtRest) : s.settle = s.refresh := by
  rw [State.settle, State.settleFrom, h.chain_eq, State.handOn_of_same rfl]

/-- Settling a settled part changes nothing. -/
theorem State.settle_settleFrom (s : State) (old : StationState) : (s.settleFrom old).settle = s.settleFrom old := by
  rw [(s.settleFrom_atRest old).settle_eq, State.settleFrom]
  generalize s.chain.handOn old = x
  have hpark : x.refresh.ctrl.parkAfter x.now x.start.parkTime x.command = x.refresh.ctrl.parkTimer := by
    simp only [State.refresh_ctrl, Controller.parkAfter]
    split <;> simp_all
  rw [State.refresh]
  simp only [State.refresh_now, State.refresh_start, State.command, State.refresh_request]
  simp only [State.command] at hpark
  rw [hpark]
  rfl

/-- In HALTED settling brings the lamps and the park timer in line, and no more. -/
theorem State.settle_halted {s : State} (h : s.ctrl.state = .halted) :
    s.settle = { s with
      ctrl := { s.ctrl with parkTimer := none, readyLamp := false }, halt := { s.halt with faultLamp := true } } := by
  have hrest : s.settle = s.refresh := by
    rw [State.settle, State.settleFrom, s.chain_resting (by simp [h, StationState.isResting]), State.handOn_of_same rfl]
  rw [hrest]
  simp [State.refresh, Controller.parkAfter, Controller.readyLampLit, StationState.faultLampLit, h]

/-! ## An entry to HALTED, block by block -/

/-- The part entered into HALTED by an event, with its first cause. -/
def State.enterHalted (s : State) (causes : List Cause) (first : FirstCause) : State :=
  let s1 := (s.addCauses causes).withState .halted
  ({ s1 with halt := { s1.halt with first := some first } }.handOn s.ctrl.state).refresh

/-- Taking an event whose highest cause is known: disregarded, added, or an entry to HALTED. -/
theorem State.takeCauses_eq {s : State} {causes rest : List Cause} {first : Cause} (origin : Nat)
    (h : Cause.insertAll causes [] = first :: rest) :
    s.takeCauses causes origin = if s.ctrl.state.isOperating = false then s
      else if s.ctrl.state = .halted then s.addCauses causes
      else s.enterHalted causes { cause := first, origin := s.originOf first origin } := by
  rw [State.takeCauses, h]
  cases s.ctrl.state.isOperating <;> rfl

theorem State.takeCauses_nil (s : State) (origin : Nat) : s.takeCauses [] origin = s := rfl

theorem Cause.insertAll_ne_nil {causes : List Cause} (h : causes ≠ []) :
    ∃ first rest, Cause.insertAll causes [] = first :: rest ∧ first ∈ causes := by
  obtain ⟨c, hc⟩ := List.exists_mem_of_ne_nil causes h
  cases hi : Cause.insertAll causes [] with
  | nil => simpa [hi] using (Cause.mem_insertAll causes c []).2 (.inl hc)
  | cons first rest =>
    have := (Cause.mem_insertAll causes first []).1 (by simp [hi])
    exact ⟨first, rest, rfl, by simpa using this⟩

section EnterHalted

variable {s : State} (causes : List Cause) (first : FirstCause)

theorem State.enterHalted_frame :
    (s.enterHalted causes first).now = s.now ∧ (s.enterHalted causes first).start = s.start
      ∧ (s.enterHalted causes first).peers = s.peers ∧ (s.enterHalted causes first).request = s.request
      ∧ (s.enterHalted causes first).pending = s.pending := by
  simp [State.enterHalted, State.handOn_frame]

theorem State.enterHalted_ctrl :
    (s.enterHalted causes first).ctrl = { s.ctrl with state := .halted, parkTimer := none, readyLamp := false } := by
  simp [State.enterHalted, State.handOn_frame, Controller.parkAfter, Controller.readyLampLit]

theorem State.enterHalted_halt :
    (s.enterHalted causes first).halt
      = { s.halt with causes := Cause.insertAll causes s.halt.causes, first := some first, faultLamp := true } := by
  simp [State.enterHalted, State.handOn_frame, StationState.faultLampLit]

theorem State.enterHalted_bus :
    (s.enterHalted causes first).bus = if s.ctrl.state = .halted then s.bus
      else s.bus.askPrompt s.now .fast (s.ctrl.state == .parked) := by
  simp only [State.enterHalted, State.refresh_bus, State.handOn_bus]
  by_cases h : s.ctrl.state = .halted
  · simp [h]
  · have hne : (StationState.halted ≠ s.ctrl.state) := fun e => h e.symm
    have hparked : (StationState.halted == StationState.parked) = false := rfl
    simp [h, hne, hparked, asksPrompt, StationState.period]

theorem State.enterHalted_meas (h : s.ctrl.state ≠ .halted) :
    (s.enterHalted causes first).meas = s.meas.stateChange s.ctrl.state .halted := by
  simp only [State.enterHalted, State.refresh_meas, State.handOn_meas]
  exact if_neg fun e => h e.symm

theorem State.enterHalted_engine (h : s.ctrl.state ≠ .halted) :
    (s.enterHalted causes first).engine = s.engine.stateChange (s.start.ceiling .halted) none := by
  simp only [State.enterHalted, State.refresh_engine, State.handOn_engine]
  exact if_neg fun e => h e.symm

theorem State.enterHalted_drive (h : s.ctrl.state ≠ .halted) :
    (s.enterHalted causes first).drive
      = { (s.drive.handOver s.start.dMin s.meas.stroke (s.enterHalted causes first).engine.commanded
          (s.enterHalted causes first).engine.direction).setBrake with creepReference := s.meas.stroke } := by
  simp only [State.enterHalted, State.refresh_drive, State.refresh_engine]
  rw [State.handOn_drive (fun e => h e.symm)]
  exact Drive.stateChange_halted _ _ _ _ _

end EnterHalted

end Sys2Proof.Machine
end

section
/-! The laws of the part under the shared operations. `Keeps s t` says of every law but the e-stop law that it holds in `t`
where it holds in `s`; a command's meaning is taken apart into writes and operations that each keep the laws. -/

namespace Sys2Proof.Machine

/-- From `s` to `t` the clock has not gone back, the waiting commands stand, and every law but the e-stop law is kept. -/
structure Keeps (s t : State) : Prop where
  now_le : s.now ≤ t.now
  pending_eq : t.pending = s.pending
  brake : BrakeLaw s → BrakeLaw t
  output : OutputLaw s → OutputLaw t
  halt : HaltLaw s → HaltLaw t
  context : ContextLaw s → ContextLaw t
  members : MembersLaw s → MembersLaw t
  lampsAndPark : LampsAndParkLaw s → LampsAndParkLaw t
  start : StartLaw s → StartLaw t
  ownEntry : OwnEntryLaw s → OwnEntryLaw t
  entries : EntryLaw s → EntryLaw t
  request : RequestLaw s → RequestLaw t
  filter : FilterLaw s → FilterLaw t
  measure : MeasureLaw s → MeasureLaw t
  bus : BusLaw s → BusLaw t

/-- Every law is kept, the e-stop law with them, and the commanded output has not risen. -/
structure Advances (s t : State) : Prop extends Keeps s t where
  estop : EstopLaw s → EstopLaw t
  commanded_le : t.engine.commanded ≤ s.engine.commanded

theorem Keeps.trans {s t u : State} (h : Keeps s t) (h' : Keeps t u) : Keeps s u where
  now_le := h.now_le.trans h'.now_le
  pending_eq := h'.pending_eq.trans h.pending_eq
  brake := h'.brake ∘ h.brake
  output := h'.output ∘ h.output
  halt := h'.halt ∘ h.halt
  context := h'.context ∘ h.context
  members := h'.members ∘ h.members
  lampsAndPark := h'.lampsAndPark ∘ h.lampsAndPark
  start := h'.start ∘ h.start
  ownEntry := h'.ownEntry ∘ h.ownEntry
  entries := h'.entries ∘ h.entries
  request := h'.request ∘ h.request
  filter := h'.filter ∘ h.filter
  measure := h'.measure ∘ h.measure
  bus := h'.bus ∘ h.bus

theorem Advances.trans {s t u : State} (h : Advances s t) (h' : Advances t u) : Advances s u :=
  { h.toKeeps.trans h'.toKeeps with
    estop := h'.estop ∘ h.estop, commanded_le := h'.commanded_le.trans h.commanded_le }

theorem Advances.refl (s : State) : Advances s s where
  now_le := le_rfl
  pending_eq := rfl
  brake := id
  output := id
  halt := id
  context := id
  members := id
  lampsAndPark := id
  start := id
  ownEntry := id
  entries := id
  request := id
  filter := id
  measure := id
  bus := id
  estop := id
  commanded_le := le_rfl

theorem Advances.of_eq {s t : State} (h : t = s) : Advances s t := h ▸ Advances.refl s

/-! ## Writes of one block: what the laws that read the block ask of the write -/

section Writes

variable {s : State}

theorem Advances.ofBus (b : Bus) (hbus : BusLaw s → BusLaw { s with bus := b }) : Advances s { s with bus := b } :=
  { Advances.refl s with bus := hbus }

theorem Advances.ofMeas (m : Measurement) (hmeasure : MeasureLaw s → MeasureLaw { s with meas := m })
    (hfilter : FilterLaw s → FilterLaw { s with meas := m }) : Advances s { s with meas := m } :=
  { Advances.refl s with measure := hmeasure, filter := hfilter }

theorem Advances.ofDrive (d : Drive) (hbrake : BrakeLaw s → BrakeLaw { s with drive := d })
    (houtput : OutputLaw s → OutputLaw { s with drive := d }) : Advances s { s with drive := d } :=
  { Advances.refl s with brake := hbrake, output := houtput }

theorem Advances.ofPeers (p : PeerTable) (hmembers : MembersLaw s → MembersLaw { s with peers := p })
    (hown : OwnEntryLaw s → OwnEntryLaw { s with peers := p }) (hentries : EntryLaw s → EntryLaw { s with peers := p }) :
    Advances s { s with peers := p } :=
  { Advances.refl s with members := hmembers, ownEntry := hown, entries := hentries }

/-- A write of the request unit that leaves the request table. -/
theorem Advances.ofRequest (r : RequestUnit) (hslots : r.slots = s.request.slots)
    (hrequest : RequestLaw s → RequestLaw { s with request := r })
    (hestop : EstopLaw s → EstopLaw { s with request := r })
    (hfilter : FilterLaw s → FilterLaw { s with request := r })
    (hsequence : s.request.sequence = none → r.sequence = none) : Advances s { s with request := r } :=
  { Advances.refl s with
    request := hrequest
    estop := hestop
    filter := hfilter
    lampsAndPark := fun h => by simpa only [LampsAndParkLaw, State.command, hslots] using h
    bus := fun ⟨hattempts, hplace, hreport, hmotion, hoffset, hwait, hsilent⟩ =>
      ⟨hattempts, hplace, hreport, hmotion, hoffset, hwait, fun hst =>
        let ⟨hop, hempty, hattempt, htimer, hseq⟩ := hsilent hst
        ⟨hop, hempty, hattempt, htimer, hsequence hseq⟩⟩ }

/-- No law reads the clear grace. -/
theorem Advances.ofGrace (g : Option Time) : Advances s { s with halt := { s.halt with grace := g } } :=
  { Advances.refl s with }

/-- Every stamp and every filter's moment lies behind the clock, wherever it moves on to. -/
theorem Advances.tick (s : State) (m : Time) : Advances s (s.tick m) :=
  have hnow : s.now ≤ max s.now m := Nat.le_max_left _ _
  { Advances.refl s with
    now_le := hnow
    entries := fun h e he =>
      let ⟨hcontent, harrival, hfresh, hstopped, hstale, hpast, hrest⟩ := h e he
      ⟨hcontent, harrival, hfresh, hstopped, fun hs a ha c hc => (hstale hs a ha c hc).trans hnow,
        fun a ha => (hpast a ha).trans hnow, hrest⟩
    filter := fun h x hx => ⟨(h x hx).1, fun t ht => ((h x hx).2 t ht).trans hnow⟩ }

end Writes

/-! ## The drive unit under a hand-over and a change of state -/

/-- The brake law with the state it is held against named: the drive unit fits the state. -/
abbrev Drive.Fits (d : Drive) (st : StationState) : Prop :=
  (d.brake ≠ .released → d.applied = 0) ∧ (st.isResting = true → d.brake = .set)
    ∧ d.releaseTimer.isSome = (d.brake == .releasing) ∧ (d.brake = .releasing → st.isMoving = true)
    ∧ d.setDelay.isSome = (d.brake == .released && !st.isMoving) ∧ d.extreme.isSome = (d.brake == .released)
    ∧ (st.isMoving = true → d.brake ≠ .set)

theorem brakeLaw_iff_fits (s : State) : BrakeLaw s ↔ s.drive.Fits s.ctrl.state := Iff.rfl

theorem Drive.Fits.handOver {d : Drive} {st : StationState} (h : d.Fits st) (dMin : Nat) (x : Int) (c : Nat)
    (dir : Direction) : (d.handOver dMin x c dir).Fits st := by
  obtain ⟨happlied, hresting, hrelease, hreleasing, hdelay, hextreme, hmoving⟩ := h
  unfold Drive.handOver
  split
  · exact ⟨fun hb => if_neg hb, hresting, hrelease, hreleasing, hdelay, hextreme, hmoving⟩
  · refine ⟨fun _ => rfl, hresting, hrelease, hreleasing, hdelay, ?_, hmoving⟩
    dsimp only
    split
    · next hb => simp [hb]
    · exact hextreme

theorem Drive.setBrake_fits (d : Drive) (x : Int) {st : StationState} (h : st.isMoving = false) :
    ({ d.setBrake with creepReference := x } : Drive).Fits st := by
  simp [Drive.Fits, Drive.setBrake, h, beq_eq_decide]

/-- The brake rule brings the drive unit in line with the new state. -/
theorem Drive.Fits.stateChange {d : Drive} {old new : StationState} (h : d.Fits old) (hnew : new ≠ .start)
    (now rt : Time) (x : Int) : (d.stateChange now rt x old new).Fits new := by
  obtain ⟨happlied, hresting, hrelease, hreleasing, hdelay, hextreme, hmoving⟩ := h
  unfold Drive.stateChange
  split
  · next hh => subst hh; exact d.setBrake_fits x rfl
  · split
    · next hc => subst hc; exact d.setBrake_fits d.creepReference rfl
    · next hhalted hfault =>
      have hnotResting : new.isResting = false := by cases new <;> simp_all [StationState.isResting]
      split
      · next hm => split <;> next hb => simp_all [Drive.Fits, beq_eq_decide]
      · next hm =>
        split
        · next ho => split <;> next hb => simp_all [Drive.Fits, Drive.setBrake, beq_eq_decide]
        · next ho => cases hb : d.brake <;> simp_all [Drive.Fits, beq_eq_decide]

/-! ## The engine and the drive unit together -/

/-- The output law with the start unit, the two blocks and the state named. -/
abbrev OutputFits (u : StartUnit) (e : Engine) (d : Drive) (st : StationState) : Prop :=
  (∀ o ∈ u.config, o.inRange = true) ∧ e.commanded ≤ e.lastCeiling ∧ e.lastCeiling ≤ u.ceiling st
    ∧ (st.isMoving = false → u.ceiling st = 0) ∧ e.lastCeiling ≤ 1000 ∧ d.commandedCopy = e.commanded
    ∧ d.direction = e.direction ∧ d.applied ≤ d.commandedCopy

theorem outputLaw_iff_fits (s : State) : OutputLaw s ↔ OutputFits s.start s.engine s.drive s.ctrl.state := Iff.rfl

/-- Outside the moving states the ceiling is 0 (R86). -/
theorem StartUnit.ceiling_of_not_moving (u : StartUnit) {st : StationState} (h : st.isMoving = false) :
    u.ceiling st = 0 := by
  have hfull : ∀ o : Options, o.fullCeiling st = 0 := fun o => by
    cases st <;> simp_all [StationState.isMoving, Options.fullCeiling]
  unfold StartUnit.ceiling
  split
  · simp [hfull]
  · rfl

theorem StartUnit.ceiling_le {u : StartUnit} (h : ∀ o ∈ u.config, o.inRange = true) (st : StationState) :
    u.ceiling st ≤ 1000 := by
  unfold StartUnit.ceiling
  split
  · next o ho =>
    have hrange := h o ho
    simp only [Options.inRange, Bool.and_eq_true, decide_eq_true_eq] at hrange
    have hfull : o.fullCeiling st ≤ 1000 := by
      unfold Options.fullCeiling
      split <;> omega
    split <;> omega
  · omega

theorem Engine.stateChange_commanded_le (e : Engine) (c : Nat) (m : Option Direction) :
    (e.stateChange c m).commanded ≤ e.commanded ∧ (e.stateChange c m).commanded ≤ c := by
  unfold Engine.stateChange
  dsimp only
  split <;> omega

theorem Drive.stateChange_output (d : Drive) (now rt : Time) (x : Int) (old new : StationState) :
    (d.stateChange now rt x old new).commandedCopy = d.commandedCopy
      ∧ (d.stateChange now rt x old new).direction = d.direction
      ∧ (d.stateChange now rt x old new).applied ≤ d.applied := by
  unfold Drive.stateChange Drive.setBrake
  repeat' split
  all_goals simp

/-- The engine's output handed over fits its ceiling. -/
theorem OutputFits.of_handOver {u : StartUnit} {e : Engine} {st : StationState}
    (hrange : ∀ o ∈ u.config, o.inRange = true) (hcommanded : e.commanded ≤ e.lastCeiling)
    (hceiling : e.lastCeiling ≤ u.ceiling st) (d : Drive) (dMin : Nat) (x : Int) :
    OutputFits u e (d.handOver dMin x e.commanded e.direction) st := by
  obtain ⟨hcopy, hdirection, -, -, -, -, happlied, -⟩ := d.handOver_spec dMin x e.commanded e.direction
  exact ⟨hrange, hcommanded, hceiling, u.ceiling_of_not_moving, hceiling.trans (StartUnit.ceiling_le hrange st), hcopy,
    hdirection, happlied.trans_eq hcopy.symm⟩

theorem OutputFits.of_stateChange {u : StartUnit} {e : Engine} {d : Drive} {old new : StationState}
    (h : OutputFits u e d old) (dMin : Nat) (now rt : Time) (x : Int) (m : Option Direction) :
    OutputFits u (e.stateChange (u.ceiling new) m)
      ((d.handOver dMin x (e.stateChange (u.ceiling new) m).commanded (e.stateChange (u.ceiling new) m).direction).stateChange
        now rt x old new) new := by
  generalize he : e.stateChange (u.ceiling new) m = e'
  have hlast : e'.lastCeiling = u.ceiling new := by rw [← he]; rfl
  have hle : e'.commanded ≤ e'.lastCeiling := by rw [hlast, ← he]; exact (e.stateChange_commanded_le _ m).2
  obtain ⟨hrange, hcommanded, hceiling, hstill, hmax, hcopy, hdirection, happlied⟩ :=
    OutputFits.of_handOver h.1 hle hlast.le d dMin x
  obtain ⟨hcopy', hdirection', happlied'⟩ :=
    (d.handOver dMin x e'.commanded e'.direction).stateChange_output now rt x old new
  exact ⟨hrange, hcommanded, hceiling, hstill, hmax, hcopy'.trans hcopy, hdirection'.trans hdirection,
    hcopy' ▸ happlied'.trans happlied⟩

/-! ## The confirmation counters -/

/-- The counters run in their states alone, each with at most 5 samples to go. -/
abbrev Measurement.CountersFit (m : Measurement) (st : StationState) : Prop :=
  m.contact.running = (st == .seating) ∧ m.release.running = (st == .unseating) ∧ m.unseat.running = st.isSeated
    ∧ (∀ c ∈ [m.contact, m.release, m.unseat], c.value ≤ 5)

/-- The ranges of the measured values (R34, R36, R40, R41, R45). -/
abbrev Measurement.InRange (m : Measurement) : Prop :=
  (-strokeLimit ≤ m.stroke ∧ m.stroke ≤ strokeLimit) ∧ (-999 ≤ m.velocity ∧ m.velocity ≤ 999) ∧ m.load ≤ 4000
    ∧ m.missCount ≤ 5 ∧ m.silent = (m.missCount == 5) ∧ m.overloadCount ≤ 3

theorem measureLaw_iff (s : State) : MeasureLaw s ↔ s.meas.InRange ∧ s.meas.CountersFit s.ctrl.state := by
  simp only [MeasureLaw, Measurement.InRange, Measurement.CountersFit, and_assoc]

theorem Measurement.CountersFit.stateChange {m : Measurement} {old : StationState} (h : m.CountersFit old)
    (new : StationState) : (m.stateChange old new).CountersFit new := by
  obtain ⟨-, -, hunseat, hvalue⟩ := h
  obtain ⟨hcontact, hrelease, hunseatValue⟩ : m.contact.value ≤ 5 ∧ m.release.value ≤ 5 ∧ m.unseat.value ≤ 5 := by
    simpa using hvalue
  unfold Measurement.stateChange
  refine ⟨?_, ?_, ?_, List.forall_mem_cons.2 ⟨?_, List.forall_mem_cons.2 ⟨?_, List.forall_mem_singleton.2 ?_⟩⟩⟩
  · cases new <;> rfl
  · cases new <;> rfl
  · cases hn : new.isSeated <;> cases ho : old.isSeated <;> simp_all [Counter.started, Counter.stopped]
  · show (if new = .seating then Counter.started else m.contact.stopped).value ≤ 5
    split <;> simp [Counter.started, Counter.stopped, hcontact]
  · show (if new = .unseating then Counter.started else m.release.stopped).value ≤ 5
    split <;> simp [Counter.started, Counter.stopped, hrelease]
  · show (if new.isSeated = true then if old.isSeated = true then m.unseat else Counter.started
      else m.unseat.stopped).value ≤ 5
    repeat' split
    all_goals simp [Counter.started, Counter.stopped, hunseatValue]

theorem Measurement.InRange.stateChange {m : Measurement} (h : m.InRange) (old new : StationState) :
    (m.stateChange old new).InRange := h

/-! ## The bus interface's places -/

/-- The bus law but for its last clause: of the bus interface alone. -/
abbrev Bus.Sound (b : Bus) : Prop :=
  (∀ p ∈ [Place.report, Place.motion, Place.clear], b.attemptsOf p ≤ 15)
    ∧ (∀ a ∈ b.attempt, (b.enteredAt a.place).isSome = true)
    ∧ (b.pendingReport.isSome = true → b.underAttempt .report = true)
    ∧ (b.pendingMotion.isSome = true → b.underAttempt .motion = true)
    ∧ b.retryOffset ≤ 30 ∧ b.accessWait.isSome = (b.attempt.isNone && !b.isEmpty)

/-- The last clause of the bus law: a silent part queues, sends, times and repeats nothing. -/
abbrev State.SilentLaw (s : State) : Prop :=
  s.ctrl.state = .start ∨ s.start.stationNumber = none →
    s.ctrl.state.isOperating = false ∧ s.bus.isEmpty = true ∧ s.bus.attempt = none ∧ s.bus.reportTimer = none
      ∧ s.request.sequence = none

theorem busLaw_iff (s : State) : BusLaw s ↔ s.bus.Sound ∧ s.SilentLaw := by
  simp only [BusLaw, Bus.Sound, State.SilentLaw, and_assoc]

/-- In an operating part that meets the bus law the silent clause is about no present case. -/
theorem State.SilentLaw.speaks {s : State} (h : s.SilentLaw) (hop : s.ctrl.state.isOperating = true) :
    s.ctrl.state ≠ .start ∧ s.start.stationNumber ≠ none := by
  constructor <;> intro hst
  · simp [h (.inl hst)] at hop
  · simp [h (.inr hst)] at hop

theorem Bus.isEmpty_of_enteredAt {b : Bus} {p : Place} (h : (b.enteredAt p).isSome = true) : b.isEmpty = false := by
  cases p <;> rw [Bus.enteredAt, Option.isSome_map] at h <;> obtain ⟨x, hx⟩ := Option.isSome_iff_exists.1 h <;>
    simp [Bus.isEmpty, hx]

theorem Bus.not_empty_of_attempt {b : Bus} (h : b.Sound) {a : Attempt} (ha : b.attempt = some a) : b.isEmpty = false := by
  obtain ⟨-, hplace, -⟩ := h
  exact Bus.isEmpty_of_enteredAt (hplace a ha)

/-- A queue that takes a token in is left not empty, and waits for access where it was empty before. -/
theorem Bus.Sound.enter {b b' : Bus} (h : b.Sound) (now : Time) (hattempt : b'.attempt = b.attempt)
    (hreport : b'.pendingReport = b.pendingReport) (hmotion : b'.pendingMotion = b.pendingMotion)
    (hoffset : b'.retryOffset = b.retryOffset) (hwait : b'.accessWait = b.accessWait) (hne : b'.isEmpty = false)
    (hattempts : ∀ p, b'.attemptsOf p ≤ max 0 (b.attemptsOf p))
    (hentered : ∀ p, (b.enteredAt p).isSome = true → (b'.enteredAt p).isSome = true) :
    (b'.beginWait b now).Sound := by
  have hempty : b.isEmpty = true → b.attempt = none := fun he => by
    cases ha : b.attempt with
    | none => rfl
    | some a => simp [Bus.not_empty_of_attempt h ha] at he
  obtain ⟨hcount, hplace, hpendingReport, hpendingMotion, hbound, haccess⟩ := h
  have hcount' : ∀ p ∈ [Place.report, Place.motion, Place.clear], b'.attemptsOf p ≤ 15 := fun p hp => by
    have := hcount p hp
    have := hattempts p
    omega
  have hplace' : ∀ a ∈ b'.attempt, (b'.enteredAt a.place).isSome = true :=
    hattempt ▸ fun a ha => hentered _ (hplace a ha)
  have hpendingReport' : b'.pendingReport.isSome = true → b'.underAttempt .report = true := by
    simpa only [hreport, Bus.underAttempt, hattempt] using hpendingReport
  have hpendingMotion' : b'.pendingMotion.isSome = true → b'.underAttempt .motion = true := by
    simpa only [hmotion, Bus.underAttempt, hattempt] using hpendingMotion
  have hbound' : b'.retryOffset ≤ 30 := hoffset ▸ hbound
  unfold Bus.beginWait
  split
  · next he =>
    refine ⟨hcount', hplace', hpendingReport', hpendingMotion', hbound', ?_⟩
    show true = (b'.attempt.isNone && !b'.isEmpty)
    simp [hattempt, hempty he, hne]
  · next he =>
    refine ⟨hcount', hplace', hpendingReport', hpendingMotion', hbound', ?_⟩
    rw [hwait, haccess, hattempt, hne]
    simp [he]

/-- A report token in its place, new or the waiting one with another mark, counts no more failures than before. -/
theorem Bus.Sound.enterReport {b : Bus} (h : b.Sound) (now : Time) (p : Bool) :
    ({ b with report := some { prompt := p, entered := now, attempts := 0 } }.beginWait b now).Sound := by
  refine h.enter now rfl rfl rfl rfl rfl (by simp [Bus.isEmpty]) (fun q => ?_) (fun q hq => ?_)
  · cases q <;> simp [Bus.attemptsOf]
  · cases q
    · rfl
    · exact hq
    · exact hq

theorem Bus.Sound.enterMotion {b : Bus} (h : b.Sound) (now : Time) (k : RequestKind) :
    ({ b with motion := some { kind := k, entered := now, attempts := 0 } }.beginWait b now).Sound := by
  refine h.enter now rfl rfl rfl rfl rfl (by simp [Bus.isEmpty]) (fun q => ?_) (fun q hq => ?_)
  · cases q <;> simp [Bus.attemptsOf]
  · cases q
    · exact hq
    · rfl
    · exact hq

theorem Bus.Sound.requestClear {b : Bus} (h : b.Sound) (now : Time) : (b.requestClear now).Sound := by
  unfold Bus.requestClear
  split
  · exact h
  · refine h.enter now rfl rfl rfl rfl rfl (by simp [Bus.isEmpty]) (fun q => ?_) (fun q hq => ?_)
    · cases q <;> simp [Bus.attemptsOf]
    · cases q
      · exact hq
      · exact hq
      · rfl

theorem Bus.Sound.requestMotion {b : Bus} (h : b.Sound) (now : Time) (k : RequestKind) :
    (b.requestMotion now k).Sound := by
  unfold Bus.requestMotion
  split
  · next hu =>
    obtain ⟨hcount, hplace, hreport, -, hbound, hwait⟩ := h
    exact ⟨hcount, hplace, hreport, fun _ => hu, hbound, hwait⟩
  · exact h.enterMotion now k

theorem Bus.Sound.scheduleReport {b : Bus} (h : b.Sound) (now : Time) : (b.scheduleReport now).Sound := by
  unfold Bus.scheduleReport
  split
  · next hu =>
    obtain ⟨hcount, hplace, -, hmotion, hbound, hwait⟩ := h
    exact ⟨hcount, hplace, fun _ => hu, hmotion, hbound, hwait⟩
  · split
    · exact h
    · exact h.enterReport now false

theorem Bus.Sound.judgePrompt {b : Bus} (h : b.Sound) (now : Time) : (b.judgePrompt now).Sound := by
  unfold Bus.judgePrompt
  split
  · exact h
  · split
    · next t ht =>
      obtain ⟨hcount, hplace, hreport, hmotion, hbound, hwait⟩ := h
      refine ⟨?_, ?_, hreport, hmotion, hbound, ?_⟩
      · simpa [Bus.attemptsOf, ht] using hcount
      · intro a ha
        have := hplace a ha
        cases hp : a.place <;> simp_all [Bus.enteredAt]
      · simpa [Bus.isEmpty, ht] using hwait
    · exact h.enterReport now true

theorem Bus.Sound.askPrompt {b : Bus} (h : b.Sound) (now : Time) (p : PeriodClass) (restart : Bool) :
    (b.askPrompt now p restart).Sound := by
  unfold Bus.askPrompt
  split
  · next hu =>
    obtain ⟨hcount, hplace, -, hmotion, hbound, hwait⟩ := h
    exact ⟨hcount, hplace, fun _ => hu, hmotion, hbound, hwait⟩
  · split
    · exact h.judgePrompt now
    · exact h.judgePrompt now

end Sys2Proof.Machine
end

section
/-! The laws under the transitions of the state controller and under an event of the halt unit. -/

namespace Sys2Proof.Machine

/-! ## Where the station comes to rest, and the laws that read it -/

theorem State.restsIn_hasContact (s : State) (h : s.ctrl.state ≠ .halted) :
    s.restsIn.hasContact = s.ctrl.state.hasContact := by
  unfold State.restsIn GroupCommand.leadsTo
  cases hst : s.ctrl.state <;> dsimp only <;> repeat' split
  all_goals simp_all [StationState.hasContact]

theorem State.restsIn_halted_iff (s : State) : s.restsIn = .halted ↔ s.ctrl.state = .halted := by
  refine ⟨fun h => ?_, fun h => ?_⟩
  · rw [← State.restsIn_resting (by simp [h, StationState.isResting]), h]
  · rw [State.restsIn_of_resting (by simp [h, StationState.isResting]), h]

theorem State.restsIn_jog_iff (s : State) : s.restsIn = .jog ↔ s.ctrl.state = .jog := by
  unfold State.restsIn GroupCommand.leadsTo
  cases hst : s.ctrl.state <;> dsimp only <;> repeat' split
  all_goals simp

theorem State.restsIn_isResting (s : State) : s.restsIn.isResting = s.ctrl.state.isResting := by
  cases h : s.ctrl.state.isResting with
  | true => rw [State.restsIn_of_resting h, h]
  | false =>
    cases hr : s.restsIn.isResting with
    | false => rfl
    | true => rw [State.restsIn_resting hr, h] at hr; cases hr

section Rested

variable {s : State}

theorem State.rested_state : s.rested.ctrl.state = s.restsIn := rfl

theorem State.rested_assembled :
    s.rested.ctrl.assembled = (s.completesAssembly || (s.ctrl.assembled && !s.losesAssembly)) := rfl

/-- A settled request unit is the one before, or has its table and its sequence emptied. -/
theorem State.rested_request_cases (s : State) :
    s.rested.request = s.request
      ∨ s.losesAssembly = true
        ∧ s.rested.request = { s.request with slots := Vector.replicate 24 none, sequence := none } := by
  unfold State.rested
  cases s.losesAssembly <;> simp

theorem State.rested_estop : s.rested.request.estopCondition = s.request.estopCondition := by
  rcases s.rested_request_cases with h | ⟨-, h⟩ <;> rw [h] <;> rfl

/-- A settled entry is the one before up to its member mark; an EMPTY one stays what it was. -/
theorem State.mem_rested_entries {e : Entry} (h : e ∈ s.rested.peers.entries.toList) :
    ∃ e' ∈ s.peers.entries.toList, e = e' ∨ e = e'.unmark ∨ e = e'.markIfEligible s.start.digest := by
  unfold State.rested at h
  dsimp only at h
  split at h
  · rw [Table.toList_map] at h
    obtain ⟨e', he', rfl⟩ := List.mem_map.1 h
    exact ⟨e', he', .inr (.inr rfl)⟩
  · split at h
    · rw [Table.toList_map] at h
      obtain ⟨e', he', rfl⟩ := List.mem_map.1 h
      exact ⟨e', he', .inr (.inl rfl)⟩
    · exact ⟨e, h, .inl rfl⟩

theorem State.rested_eq_empty {e e' : Entry} (h : e = e' ∨ e = e'.unmark ∨ e = e'.markIfEligible s.start.digest)
    (he' : e' = Entry.empty) : e = Entry.empty := by
  subst he'
  rcases h with rfl | rfl | rfl <;> rfl

theorem Entry.coherent_setMember {e : Entry} {now : Time} (h : e.coherent now) (b : Bool) :
    ({ e with member := b } : Entry).coherent now := h

theorem State.rested_coherent {e e' : Entry} {now : Time}
    (h : e = e' ∨ e = e'.unmark ∨ e = e'.markIfEligible s.start.digest) (he' : e'.coherent now) : e.coherent now := by
  rcases h with rfl | rfl | rfl
  · exact he'
  · exact Entry.coherent_setMember he' _
  · exact Entry.coherent_setMember he' _

theorem State.rested_get {n : Nat} (h : (Table.get s.peers.entries n).getD Entry.empty = Entry.empty) :
    (Table.get s.rested.peers.entries n).getD Entry.empty = Entry.empty := by
  have hmap : ∀ f : Entry → Entry, f Entry.empty = Entry.empty →
      (Table.get (Table.map f s.peers.entries) n).getD Entry.empty = Entry.empty := fun f hf => by
    rw [Table.get_map]
    cases hg : Table.get s.peers.entries n with
    | none => rfl
    | some e =>
      rw [hg] at h
      exact (congrArg f h).trans hf
  unfold State.rested
  dsimp only
  split
  · exact hmap _ rfl
  · split
    · exact hmap _ rfl
    · exact h

theorem State.memberCount_of_completes (h : s.completesAssembly = true) :
    s.start.config.map (fun o => o.n - 1) = some s.rested.peers.memberCount := by
  have hg : s.groupAssembled = true := by
    simp only [State.completesAssembly, Bool.and_eq_true] at h
    exact h.1
  have hcount : s.rested.peers.memberCount = s.eligibleCount := by
    have hentries : s.rested.peers.entries = Table.map (Entry.markIfEligible s.start.digest) s.peers.entries :=
      if_pos h
    simp [PeerTable.memberCount, State.eligibleCount, hentries, Table.toList_map, List.countP_map, Function.comp_def,
      Entry.markIfEligible]
  rw [hcount]
  unfold State.groupAssembled at hg
  split at hg
  · next o ho =>
    simp only [Bool.and_eq_true, decide_eq_true_eq] at hg
    simp [ho, hg.2]
  · cases hg

theorem PeerTable.memberCount_unmark (p : PeerTable) :
    ({ p with entries := Table.map Entry.unmark p.entries } : PeerTable).memberCount = 0 := by
  simp [PeerTable.memberCount, Table.toList_map, Entry.unmark]

theorem State.rested_members (h : MembersLaw s) : MembersLaw s.rested := by
  unfold MembersLaw at *
  cases hc : s.completesAssembly with
  | true =>
    rw [if_pos (by simp [State.rested_assembled, hc])]
    exact State.memberCount_of_completes hc
  | false =>
    cases hl : s.losesAssembly with
    | true =>
      have hpeers : s.rested.peers = { s.peers with entries := Table.map Entry.unmark s.peers.entries } := by
        simp [State.rested, hc, hl]
      rw [if_neg (by simp [State.rested_assembled, hc, hl]), hpeers]
      exact s.peers.memberCount_unmark
    | false =>
      rw [State.rested_of_kept hc hl]
      exact h

/-- Where no assembly is completed or lost, the flag's classes of states are not left. -/
theorem State.restsIn_formed_of_kept (hc : s.completesAssembly = false) (hl : s.losesAssembly = false) :
    s.restsIn.isFormed = s.ctrl.state.isFormed ∧ s.restsIn.isUnformed = s.ctrl.state.isUnformed := by
  unfold State.restsIn GroupCommand.leadsTo
  rw [hc, hl]
  cases hst : s.ctrl.state <;> dsimp only <;> repeat' split
  all_goals simp_all [StationState.isFormed, StationState.isUnformed, StationState.isLoaded]

/-- A lost assembly leaves the station in JOG, in ASSEMBLING, or in READY where it is completed again. -/
theorem State.restsIn_of_lost (hl : s.losesAssembly = true) :
    (s.restsIn = .jog ∨ s.restsIn = if s.completesAssembly then .ready else .assembling)
      ∧ (s.ctrl.state = .ready ∨ s.ctrl.state = .seating ∨ s.ctrl.state = .jog) := by
  unfold State.restsIn
  rw [hl]
  cases hst : s.ctrl.state <;> simp_all [State.losesAssembly]

theorem State.rested_context (h : ContextLaw s) : ContextLaw s.rested := by
  obtain ⟨hcontact, hformed, hunformed, hflag⟩ := h
  have hlaw : s.restsIn ≠ .halted → s.ctrl.contact.isSome = s.restsIn.hasContact := fun hne =>
    have hne' : s.ctrl.state ≠ .halted := fun e => hne (s.restsIn_halted_iff.2 e)
    (hcontact hne').trans (s.restsIn_hasContact hne').symm
  cases hc : s.completesAssembly with
  | true =>
    have hset : s.rested.ctrl.assembled = true := by simp [State.rested_assembled, hc]
    refine ⟨hlaw, fun _ => hset, fun hun => absurd hun ?_, fun _ => hset⟩
    show ¬s.restsIn.isUnformed = true
    cases hl : s.losesAssembly with
    | true => rcases (State.restsIn_of_lost hl).1 with hr | hr <;> rw [hr] <;> simp [hc, StationState.isUnformed]
    | false =>
      have ⟨_, hst⟩ : s.groupAssembled = true ∧ s.ctrl.state = .assembling := by
        simpa [State.completesAssembly, hl] using hc
      have hr : s.restsIn = if s.command = .raise then .seating else .ready := by simp [State.restsIn, hst, hc]
      by_cases hraise : s.command = .raise <;> simp [hr, hraise, StationState.isUnformed]
  | false =>
    cases hl : s.losesAssembly with
    | true =>
      obtain ⟨hr, hst⟩ := State.restsIn_of_lost hl
      have hclear : s.rested.ctrl.assembled = false := by simp [State.rested_assembled, hc, hl]
      refine ⟨hlaw, fun hf => absurd hf ?_, fun _ => hclear, fun hs => absurd hs ?_⟩
      · show ¬s.restsIn.isFormed = true
        rcases hr with hr | hr <;> rw [hr] <;> simp [hc, StationState.isFormed, StationState.isLoaded]
      · have hne : s.ctrl.state ≠ .halted := by rcases hst with h | h | h <;> simp [h]
        show ¬s.ctrl.contact.isSome = true
        rw [hcontact hne]
        rcases hst with h | h | h <;> simp [h, StationState.hasContact]
    | false =>
      obtain ⟨hf, hu⟩ := State.restsIn_formed_of_kept hc hl
      rw [State.rested_of_kept hc hl]
      exact ⟨hlaw, hf ▸ hformed, hu ▸ hunformed, hflag⟩

theorem State.rested_requestLaw (h : RequestLaw s) : RequestLaw s.rested := by
  obtain ⟨hclear, hkeys, hsilent, hjog⟩ := h
  have hop : s.rested.ctrl.state.isOperating = s.ctrl.state.isOperating := s.restsIn_isOperating
  have hjog' : s.rested.ctrl.state = .jog → s.ctrl.state = .jog := s.restsIn_jog_iff.1
  rcases s.rested_request_cases with hr | ⟨hl, hr⟩
  · unfold RequestLaw
    rw [hr, hop]
    refine ⟨fun ha => ?_, hkeys, hsilent, fun hst => hjog (hjog' hst)⟩
    cases hl : s.losesAssembly with
    | true =>
      have hslots : s.request.slots = Vector.replicate 24 none := by
        rw [← hr]
        simp [State.rested, hl]
      have hsequence : s.request.sequence = none := by
        rw [← hr]
        simp [State.rested, hl]
      exact ⟨by simp [hslots], hsequence⟩
    | false =>
      simp only [State.rested_assembled, hl, Bool.or_eq_false_iff, Bool.not_false, Bool.and_true] at ha
      exact hclear ha.2
  · unfold RequestLaw
    rw [hr, hop]
    exact ⟨fun _ => ⟨by simp, rfl⟩, hkeys, fun _ => rfl, fun hst => hjog (hjog' hst)⟩

theorem State.rested_ownEntry (h : OwnEntryLaw s) : OwnEntryLaw s.rested := by
  obtain ⟨hall, hown⟩ := h
  refine ⟨fun hop e he => ?_, s.rested_get hown⟩
  obtain ⟨e', he', hcases⟩ := State.mem_rested_entries he
  exact State.rested_eq_empty hcases (hall (s.restsIn_isOperating ▸ hop) e' he')

theorem State.rested_entryLaw (h : EntryLaw s) : EntryLaw s.rested := fun e he => by
  obtain ⟨e', he', hcases⟩ := State.mem_rested_entries he
  exact State.rested_coherent hcases (h e' he')

theorem State.rested_startLaw (h : StartLaw s) : StartLaw s.rested := by
  have hop : s.rested.ctrl.state.isOperating = s.ctrl.state.isOperating := s.restsIn_isOperating
  have hstart : s.rested.ctrl.state = .start → s.ctrl.state = .start := fun hst => by
    rw [← hst]
    exact (State.restsIn_resting (by rw [← State.rested_state, hst]; rfl)).symm
  unfold StartLaw
  rw [hop]
  obtain ⟨hconfig, hdigest, hnumber, habsent, hrest⟩ := h
  exact ⟨hconfig, hdigest, hnumber, fun hst => habsent (hstart hst), hrest⟩

theorem State.rested_filterLaw (h : FilterLaw s) : FilterLaw s.rested := by
  rcases s.rested_request_cases with hr | ⟨-, hr⟩ <;> unfold FilterLaw <;> rw [hr] <;> exact h

theorem State.rested_haltLaw (h : HaltLaw s) : HaltLaw s.rested := by
  have heq : (s.rested.ctrl.state == .halted) = (s.ctrl.state == .halted) := by
    simp only [beq_eq_decide, State.rested_state, s.restsIn_halted_iff]
  unfold HaltLaw
  rw [bne, heq]
  exact h

theorem State.rested_estopLaw (h : EstopLaw s) : EstopLaw s.rested := by
  obtain ⟨hrests, hheld, htimer⟩ := h
  have hcondition := State.rested_estop (s := s)
  refine ⟨fun hc => ?_, fun hc hst => ?_, ?_⟩
  · rw [State.rested_state, s.restsIn_isResting]
    exact hrests (hcondition ▸ hc)
  · exact hheld (hcondition ▸ hc) (s.restsIn_halted_iff.1 hst)
  · rcases s.rested_request_cases with hr | ⟨-, hr⟩ <;> rw [hr] <;> exact htimer

end Rested

/-! ## Settling keeps the laws -/

/-- What a command leaves for the state controller to settle: from `s` it has come to `x`, whose state may be another than
that of `s`. The drive unit, the engine and the counters still fit the state of `s`, since nothing has been handed on to
them; the other laws hold of `x`. -/
structure Transit (s x : State) : Prop where
  now_le : s.now ≤ x.now
  pending_eq : x.pending = s.pending
  brake : BrakeLaw s → BrakeLaw (x.withState s.ctrl.state)
  output : OutputLaw s → OutputLaw (x.withState s.ctrl.state)
  measure : MeasureLaw s → MeasureLaw (x.withState s.ctrl.state)
  halt : HaltLaw s → HaltLaw x
  context : ContextLaw s → ContextLaw x
  members : MembersLaw s → MembersLaw x
  start : StartLaw s → StartLaw x
  ownEntry : OwnEntryLaw s → OwnEntryLaw x
  entries : EntryLaw s → EntryLaw x
  request : RequestLaw s → RequestLaw x
  filter : FilterLaw s → FilterLaw x
  bus : BusLaw s → BusLaw x
  fromStart : x.ctrl.state = .start → s.ctrl.state = .start
  notParked : x.ctrl.state.isOperating = false → s.ctrl.state ≠ .parked
  commanded_le : x.engine.commanded ≤ s.engine.commanded

/-- A part whose state is not written settles from where it stands. -/
theorem Transit.refl (s : State) : Transit s s :=
  { Advances.refl s with fromStart := id, notParked := fun h e => by simp [e, StationState.isOperating] at h }

section SettleKeeps

variable {s x : State} (h : Transit s x)

theorem Drive.Fits.settleFrom {old : StationState} (hd : x.drive.Fits old) (hstart : x.restsIn = .start → old = .start) :
    (x.settleFrom old).drive.Fits x.restsIn := by
  rw [x.settleFrom_drive old]
  split
  · next he => exact he ▸ hd
  · next he => exact (hd.handOver _ _ _ _).stateChange (fun hst => he (hst.trans (hstart hst).symm)) _ _ _

theorem OutputFits.settleFrom {old : StationState} (ho : OutputFits x.start x.engine x.drive old) :
    OutputFits x.start (x.settleFrom old).engine (x.settleFrom old).drive x.restsIn := by
  rw [x.settleFrom_drive old, x.settleFrom_engine old]
  split
  · next he => exact he ▸ ho
  · exact ho.of_stateChange _ _ _ _ _

theorem State.settleFrom_counters {old : StationState} (hm : x.meas.InRange ∧ x.meas.CountersFit old) :
    (x.settleFrom old).meas.InRange ∧ (x.settleFrom old).meas.CountersFit x.restsIn := by
  rw [x.settleFrom_meas old]
  split
  · next he => exact he ▸ hm
  · exact ⟨hm.1.stateChange _ _, hm.2.stateChange _⟩

theorem State.settleFrom_lampsAndPark (x : State) (old : StationState) : LampsAndParkLaw (x.settleFrom old) := by
  obtain ⟨hctrl, -, -, hlamp⟩ := x.settlesFrom_settleFrom old
  refine ⟨congrArg Controller.readyLamp hctrl, hlamp, ?_⟩
  have hcommand : (x.settleFrom old).command = x.rested.command := 
    congrArg (fun r : RequestUnit => Slot.command r.slots) (x.settleFrom_request old)
  rw [hcommand, x.settleFrom_ctrl old, x.chain_eq_rested]
  simp only [Controller.parkAfter]
  split
  · next hp => simp [hp]
  · next hp => simpa using hp

/-- A report asked for at a change of state finds the bus interface sound, and an operating part. -/
theorem BusLaw.settleFrom {old : StationState} (hb : BusLaw x) (hparked : x.ctrl.state.isOperating = false → old ≠ .parked) :
    BusLaw (x.settleFrom old) := by
  obtain ⟨hsound, hsilent⟩ := (busLaw_iff x).1 hb
  have hsound' : (x.settleFrom old).bus.Sound := by
    rw [x.settleFrom_bus old]
    split
    · exact hsound.askPrompt _ _ _
    · exact hsound
  refine (busLaw_iff _).2 ⟨hsound', fun hst => ?_⟩
  rw [x.settleFrom_state old, x.settleFrom_start old] at *
  have hquiet : x.ctrl.state = .start ∨ x.start.stationNumber = none := by
    refine hst.imp (fun hr => ?_) id
    rw [← State.restsIn_resting (by rw [hr]; rfl), hr]
  obtain ⟨hop, hempty, hattempt, htimer, hsequence⟩ := hsilent hquiet
  have hbus : (x.settleFrom old).bus = x.bus := by
    rw [x.settleFrom_bus old, if_neg]
    rintro ⟨-, hasks⟩
    have hrests : x.restsIn = x.ctrl.state := State.restsIn_of_resting (by
      cases hx : x.ctrl.state <;> simp_all [StationState.isOperating, StationState.isResting])
    rw [hrests] at hasks
    have hnot := hparked hop
    cases hx : x.ctrl.state <;> simp_all [asksPrompt, StationState.isOperating]
  refine ⟨x.restsIn_isOperating.trans hop, ?_, ?_, ?_, ?_⟩
  · rw [hbus]; exact hempty
  · rw [hbus]; exact hattempt
  · rw [hbus]; exact htimer
  · rw [x.settleFrom_request old]
    rcases x.rested_request_cases with hr | ⟨-, hr⟩ <;> rw [hr]
    exact hsequence

theorem State.settleFrom_commanded_le (x : State) (old : StationState) :
    (x.settleFrom old).engine.commanded ≤ x.engine.commanded := by
  rw [x.settleFrom_engine old]
  split
  · exact le_rfl
  · exact (Engine.stateChange_commanded_le _ _ _).1

include h in
/-- Settling hands the new state on to the blocks that still fit the old one. -/
theorem Transit.keeps : Keeps s (x.settleFrom s.ctrl.state) := by
  have hstate := x.settleFrom_state s.ctrl.state
  have hpeers := x.settleFrom_peers s.ctrl.state
  have hrequest := x.settleFrom_request s.ctrl.state
  have hhalt := x.settleFrom_halt_eq s.ctrl.state
  have hstart := x.settleFrom_start s.ctrl.state
  have hnow := x.settleFrom_now s.ctrl.state
  have hctrl : (x.settleFrom s.ctrl.state).ctrl.assembled = x.rested.ctrl.assembled := by
    rw [x.settleFrom_ctrl, x.chain_eq_rested]
  refine
    { now_le := hnow ▸ h.now_le
      pending_eq := (x.settleFrom_pending _).trans h.pending_eq
      brake := fun hl => ?brake, output := fun hl => ?output, measure := fun hl => ?measure, halt := fun hl => ?halt
      context := fun hl => ?context, members := fun hl => ?members
      lampsAndPark := fun _ => x.settleFrom_lampsAndPark _
      start := fun hl => ?start, ownEntry := fun hl => ?ownEntry, entries := fun hl => ?entries
      request := fun hl => ?request, filter := fun hl => ?filter, bus := fun hl => (h.bus hl).settleFrom h.notParked }
  case brake =>
    rw [brakeLaw_iff_fits, hstate]
    refine Drive.Fits.settleFrom (h.brake hl) fun hr => h.fromStart ?_
    rw [← State.restsIn_resting (by rw [hr]; rfl), hr]
  case output =>
    rw [outputLaw_iff_fits, hstate, hstart]
    exact OutputFits.settleFrom (x := x) (h.output hl)
  case measure =>
    rw [measureLaw_iff, hstate]
    exact State.settleFrom_counters ((measureLaw_iff _).1 (h.measure hl))
  case halt =>
    have := State.rested_haltLaw (h.halt hl)
    unfold HaltLaw
    rw [hstate, hhalt]
    exact this
  case context =>
    have := State.rested_context (h.context hl)
    unfold ContextLaw
    rw [hstate, hctrl, x.settleFrom_contact]
    exact this
  case members =>
    have := State.rested_members (h.members hl)
    unfold MembersLaw
    rw [hctrl, hstart, hpeers]
    exact this
  case start =>
    have := State.rested_startLaw (h.start hl)
    unfold StartLaw
    rw [hstate, hstart]
    exact this
  case ownEntry =>
    have := State.rested_ownEntry (h.ownEntry hl)
    unfold OwnEntryLaw State.ownNumber
    rw [hstate, hstart, hpeers]
    exact this
  case entries =>
    have := State.rested_entryLaw (h.entries hl)
    unfold EntryLaw
    rw [hnow, hpeers]
    exact this
  case request =>
    have := State.rested_requestLaw (h.request hl)
    unfold RequestLaw
    rw [hstate, hctrl, hrequest, x.settleFrom_jogDirection]
    exact this
  case filter =>
    have := State.rested_filterLaw (h.filter hl)
    have hfrom : (x.settleFrom s.ctrl.state).meas.upperEndFrom = x.meas.upperEndFrom
        ∧ (x.settleFrom s.ctrl.state).meas.lowerEndFrom = x.meas.lowerEndFrom
        ∧ (x.settleFrom s.ctrl.state).meas.overtravelFrom = x.meas.overtravelFrom := by
      rw [x.settleFrom_meas]
      split <;> exact ⟨rfl, rfl, rfl⟩
    obtain ⟨hupper, hlower, hover⟩ := hfrom
    unfold FilterLaw
    rw [hstart, hnow, hrequest, hupper, hlower, hover]
    exact this

include h in
theorem Transit.advances (hestop : EstopLaw s → EstopLaw x) : Advances s (x.settleFrom s.ctrl.state) :=
  { h.keeps with
    estop := fun hl => by
      have := State.rested_estopLaw (hestop hl)
      unfold EstopLaw
      rw [x.settleFrom_state, x.settleFrom_request, x.settleFrom_halt_eq]
      exact this
    commanded_le := (x.settleFrom_commanded_le _).trans h.commanded_le }

theorem Advances.settle (s : State) : Advances s s.settle := (Transit.refl s).advances id

end SettleKeeps

end Sys2Proof.Machine
end

section
/-! The laws under an event of the halt unit, and the commands' common wrappings. -/

namespace Sys2Proof.Machine

/-! ## The cause set -/

theorem Cause.insert_sorted (c : Cause) {set : List Cause} (h : set.Pairwise (fun a b => a.code < b.code)) :
    (c.insert set).Pairwise (fun a b => a.code < b.code) := by
  induction set with
  | nil => simp [Cause.insert]
  | cons d rest ih =>
    obtain ⟨hd, hrest⟩ := List.pairwise_cons.1 h
    unfold Cause.insert
    split
    · next hlt =>
      exact List.pairwise_cons.2 ⟨fun b hb => by
        rcases List.mem_cons.1 hb with rfl | hb
        · exact hlt
        · exact hlt.trans (hd b hb), h⟩
    · split
      · exact h
      · next hlt hne =>
        refine List.pairwise_cons.2 ⟨fun b hb => ?_, ih hrest⟩
        rcases (Cause.mem_insert c b rest).1 hb with rfl | hb
        · omega
        · exact hd b hb

theorem Cause.insertAll_sorted (causes : List Cause) {set : List Cause}
    (h : set.Pairwise (fun a b => a.code < b.code)) :
    (Cause.insertAll causes set).Pairwise (fun a b => a.code < b.code) := by
  unfold Cause.insertAll
  induction causes generalizing set with
  | nil => exact h
  | cons c rest ih => exact ih (c.insert_sorted h)

theorem Cause.insertAll_isEmpty {causes : List Cause} (h : causes ≠ []) (set : List Cause) :
    (Cause.insertAll causes set).isEmpty = false := by
  obtain ⟨c, hc⟩ := List.exists_mem_of_ne_nil causes h
  exact List.isEmpty_eq_false_iff_exists_mem.2 ⟨c, (Cause.mem_insertAll causes c set).2 (.inl hc)⟩

/-! ## An event of the halt unit keeps the laws -/

/-- Causes added in HALTED: the first cause stays among them. -/
theorem Advances.addCauses {s : State} (causes : List Cause) (hne : causes ≠ []) (hst : s.ctrl.state = .halted) :
    Advances s (s.addCauses causes) :=
  { Advances.refl s with
    halt := fun ⟨hfirst, hmem, _, hsorted⟩ =>
      ⟨hfirst, fun f hf => (Cause.mem_insertAll _ _ _).2 (.inr (hmem f hf)),
        (Cause.insertAll_isEmpty hne _).trans (by simp [hst]), Cause.insertAll_sorted causes hsorted⟩
    estop := fun ⟨hrests, hheld, htimer⟩ =>
      ⟨hrests, fun hc hh => (Cause.mem_insertAll _ _ _).2 (.inr (hheld hc hh)), htimer⟩ }

/-- An entry to HALTED from an operating state: the brake is set, the output gone, the counters stopped. -/
theorem Advances.enterHalted {s : State} {causes : List Cause} {first : FirstCause} (hfirst : first.cause ∈ causes)
    (hop : s.ctrl.state.isOperating = true) (hst : s.ctrl.state ≠ .halted) :
    Advances s (s.enterHalted causes first) := by
  obtain ⟨hnow, hstart, hpeers, hrequest, hpending⟩ := s.enterHalted_frame causes first
  have hctrl := s.enterHalted_ctrl causes first
  have hhalt := s.enterHalted_halt causes first
  have hbus := s.enterHalted_bus causes first
  have hmeas := s.enterHalted_meas causes first hst
  have hengine := s.enterHalted_engine causes first hst
  have hdrive := s.enterHalted_drive causes first hst
  have hnotResting : s.ctrl.state.isResting = false := by
    cases h : s.ctrl.state <;> simp_all [StationState.isResting, StationState.isOperating]
  refine
    { now_le := hnow.ge, pending_eq := hpending
      brake := fun hl => ?brake, output := fun hl => ?output, measure := fun hl => ?measure, halt := fun hl => ?halt
      context := fun hl => ?context, members := fun hl => ?members, lampsAndPark := fun _ => ?lamps
      start := fun hl => ?startLaw, ownEntry := fun hl => ?ownEntry, entries := fun hl => ?entries
      request := fun hl => ?request, filter := fun hl => ?filter, bus := fun hl => ?bus
      estop := fun hl => ?estop, commanded_le := hengine ▸ (Engine.stateChange_commanded_le _ _ _).1 }
  case brake =>
    rw [brakeLaw_iff_fits, hdrive, hctrl]
    exact Drive.setBrake_fits _ _ rfl
  case output =>
    rw [outputLaw_iff_fits, hdrive, hengine, hctrl, hstart]
    have := (show OutputFits _ _ _ _ from hl).of_stateChange (new := .halted) s.start.dMin s.now s.start.releaseTime
      s.meas.stroke none
    rwa [Drive.stateChange_halted] at this
  case measure =>
    rw [measureLaw_iff, hmeas, hctrl]
    obtain ⟨hranges, hcounters⟩ := (measureLaw_iff s).1 hl
    exact ⟨hranges.stateChange _ _, hcounters.stateChange _⟩
  case halt =>
    obtain ⟨-, -, hempty, hsorted⟩ := hl
    unfold HaltLaw
    rw [hhalt, hctrl]
    exact ⟨rfl, by simpa using (Cause.mem_insertAll causes _ s.halt.causes).2 (.inl hfirst),
      Cause.insertAll_isEmpty (List.ne_nil_of_mem hfirst) _, Cause.insertAll_sorted causes hsorted⟩
  case context =>
    obtain ⟨-, -, -, hflag⟩ := hl
    unfold ContextLaw
    rw [hctrl]
    exact ⟨fun hne => absurd rfl hne, fun hf => absurd hf Bool.false_ne_true,
      fun hu => absurd hu Bool.false_ne_true, hflag⟩
  case members =>
    unfold MembersLaw
    rw [hctrl, hstart, hpeers]
    exact hl
  case lamps =>
    unfold LampsAndParkLaw
    rw [hctrl, hhalt]
    exact ⟨(Bool.and_false _).symm, rfl, rfl⟩
  case startLaw =>
    obtain ⟨hconfig, hdigest, hnumber, habsent, hrest⟩ := hl
    unfold StartLaw
    rw [hstart, hctrl]
    exact ⟨hconfig.trans hop, hdigest.trans hop, fun _ => hnumber hop, fun h => StationState.noConfusion h, hrest⟩
  case ownEntry =>
    obtain ⟨-, hown⟩ := hl
    unfold OwnEntryLaw State.ownNumber
    rw [hctrl, hstart, hpeers]
    exact ⟨fun h => Bool.noConfusion h, hown⟩
  case entries =>
    unfold EntryLaw
    rw [hnow, hpeers]
    exact hl
  case request =>
    obtain ⟨hclear, hkeys, hsilent, -⟩ := hl
    unfold RequestLaw
    rw [hctrl, hrequest]
    exact ⟨hclear, hkeys, fun h => hsilent (h.imp (fun h => Bool.noConfusion h) id), fun h => StationState.noConfusion h⟩
  case filter =>
    unfold FilterLaw
    rw [hnow, hstart, hrequest, hmeas]
    exact hl
  case bus =>
    obtain ⟨hsound, hsilent⟩ := (busLaw_iff s).1 hl
    have hspeaks := hsilent.speaks hop
    rw [busLaw_iff, State.SilentLaw, hbus, hstart, hctrl, if_neg hst]
    refine ⟨hsound.askPrompt _ _ _, fun h => ?_⟩
    rcases h with h | h
    · exact StationState.noConfusion h
    · exact absurd h hspeaks.2
  case estop =>
    obtain ⟨hrests, -, htimer⟩ := hl
    unfold EstopLaw
    rw [hctrl, hrequest]
    exact ⟨fun _ => rfl, fun hc => by rw [hnotResting] at hrests; exact absurd (hrests hc) (by simp), htimer⟩

/-- One event of causes, of any causes in any state. -/
theorem Advances.takeCauses (s : State) (causes : List Cause) (origin : Nat := 0) :
    Advances s (s.takeCauses causes origin) := by
  by_cases hne : causes = []
  · exact hne ▸ Advances.refl s
  · obtain ⟨first, rest, hinsert, hmem⟩ := Cause.insertAll_ne_nil hne
    rw [State.takeCauses_eq origin hinsert]
    split
    · exact Advances.refl s
    · next hop =>
      split
      · next hst => exact Advances.addCauses causes hne hst
      · next hst => exact Advances.enterHalted hmem (by simpa using hop) hst

/-! ## The commands' wrappings -/

section Wrappings

variable {s t : State} {R : State → State → Prop}

/-- A command taken while no reset is held: what it does to the part, or nothing. -/
theorem State.of_whenRunning {f : State → State} (hrefl : R s s) (hf : s.start.resetHeld = false → R s (f s))
    (h : s.whenRunning f = .next t) : R s t := by
  unfold State.whenRunning at h
  cases hh : s.start.resetHeld with
  | true => rw [hh] at h; cases h; exact hrefl
  | false => rw [hh] at h; cases h; exact hf hh

/-- An event from outside: the clock moves on, and then the command acts. -/
theorem Advances.onEvent {m : Time} {f : State → State}
    (hf : s.start.resetHeld = false → Advances (s.tick m) (f (s.tick m))) (h : s.onEvent m f = .next t) : Advances s t :=
  State.of_whenRunning (Advances.refl s) (fun hh => (Advances.tick s m).trans (hf hh)) h

theorem Advances.onFilter {m : Time} {since : Option Time} {filter : Time} {f : State → State}
    (hf : ∀ now, s.start.resetHeld = false → Advances (s.tick now) (f (s.tick now)))
    (h : s.onFilter m since filter f = .next t) : Advances s t :=
  Advances.onEvent (hf _) h

/-- The end of an own timer: the clock moves on to its moment, and then the command acts. -/
theorem Advances.onTimer {timer : Option Time} {f : Time → State → State}
    (hf : ∀ due, timer = some due → s.start.resetHeld = false → Advances (s.tick due) (f due (s.tick due)))
    (h : s.onTimer timer f = .next t) : Advances s t := by
  cases htimer : timer with
  | none => rw [htimer, State.onTimer_stopped] at h; cases h; exact Advances.refl s
  | some due =>
    rw [htimer] at h
    exact State.of_whenRunning (Advances.refl s) (fun hh => (Advances.tick s due).trans (hf due htimer hh)) h

end Wrappings

end Sys2Proof.Machine
end

section
/-! The laws under the transitions a command asks for: one builder for all of them, and the entries built from it. -/

namespace Sys2Proof.Machine

/-! ## The request unit against the flag -/

/-- The request law but for its clause about JOG, with what it reads of the state controller named. -/
abbrev RequestUnit.Fits (r : RequestUnit) (assembled operating : Bool) : Prop :=
  (assembled = false → (∀ x ∈ r.slots.toList, x = none) ∧ r.sequence = none)
    ∧ (∀ k ∈ [r.raiseKey, r.lowerKey, r.resetKey], k.blocked = true ∨ r.pendantPresent = false → k.pressed = false)
    ∧ (operating = false ∨ r.mode = .localMode → r.sequence = none)

/-- A jog is held in LOCAL mode by its own key alone. -/
abbrev RequestUnit.HoldsJog (r : RequestUnit) (dir : Direction) : Prop :=
  r.mode = .localMode ∧ (r.key (holdingKey dir)).pressed = true ∧ (r.key (otherKey (holdingKey dir))).pressed = false

theorem requestLaw_iff (s : State) :
    RequestLaw s ↔ s.request.Fits s.ctrl.assembled s.ctrl.state.isOperating
      ∧ (s.ctrl.state = .jog → s.request.HoldsJog s.ctrl.jogDirection) := by
  simp only [RequestLaw, RequestUnit.Fits, RequestUnit.HoldsJog, and_assoc]

/-- The request table and the sequence emptied, as the flag clears (R133, R139). -/
def RequestUnit.emptied (r : RequestUnit) : RequestUnit := { r with slots := Vector.replicate 24 none, sequence := none }

theorem RequestUnit.Fits.emptied {r : RequestUnit} {a b : Bool} (h : r.Fits a b) : r.emptied.Fits false b :=
  ⟨fun _ => ⟨by simp [RequestUnit.emptied], rfl⟩, h.2.1, fun _ => rfl⟩

/-! ## Member marks removed -/

theorem State.clearFlag_ownEntry {s : State} {st : StationState} (h : OwnEntryLaw s)
    (hop : st.isOperating = false → s.ctrl.state.isOperating = false) : OwnEntryLaw (s.clearFlag.withState st) := by
  obtain ⟨hall, hown⟩ := h
  refine ⟨fun hst e he => ?_, ?_⟩
  · obtain ⟨e', he', rfl⟩ := List.mem_map.1 ((Table.toList_map _ _ ▸ he :) : e ∈ s.peers.entries.toList.map Entry.unmark)
    rw [hall (hop hst) e' he']
    rfl
  · show (Table.get (Table.map Entry.unmark s.peers.entries) s.ownNumber).getD Entry.empty = Entry.empty
    rw [Table.get_map]
    cases hg : Table.get s.peers.entries s.ownNumber with
    | none => rfl
    | some e =>
      rw [hg] at hown
      exact congrArg Entry.unmark hown

theorem State.clearFlag_entryLaw {s : State} (h : EntryLaw s) : EntryLaw s.clearFlag := fun e he => by
  obtain ⟨e', he', rfl⟩ := List.mem_map.1 ((Table.toList_map _ _ ▸ he :) : e ∈ s.peers.entries.toList.map Entry.unmark)
  exact Entry.coherent_setMember (h e' he') false

/-! ## One builder for the transitions -/

/-- What a transition writes of the flag's own, from `s` to `x`, `r` being the request unit with the command's own writes
made: nothing, or the flag cleared with every mark, the request table and the sequence (R6). -/
def FlagKeptOrCleared (s x : State) (r : RequestUnit) : Prop :=
  x.ctrl.assembled = s.ctrl.assembled ∧ x.peers = s.peers ∧ x.request = r
    ∨ x.ctrl.assembled = false ∧ x.peers = s.clearFlag.peers ∧ x.request = r.emptied

/-- A transition that a command asks for in an operating state, before anything is handed on. -/
structure Asked (s x : State) (r : RequestUnit) : Prop where
  now_eq : x.now = s.now
  pending_eq : x.pending = s.pending
  start_eq : x.start = s.start
  meas_eq : x.meas = s.meas
  engine_eq : x.engine = s.engine
  drive_eq : x.drive = s.drive
  bus_eq : x.bus = s.bus
  flag : FlagKeptOrCleared s x r
  operating : s.ctrl.state.isOperating = true
  operating' : x.ctrl.state.isOperating = true
  requestFits : RequestLaw s → r.Fits s.ctrl.assembled true
  filter : FilterLaw s → FilterLaw { s with request := r }
  halt : HaltLaw s → HaltLaw x
  context : ContextLaw s → ContextLaw x
  holdsJog : x.ctrl.state = .jog → RequestLaw s → x.request.HoldsJog x.ctrl.jogDirection

theorem Asked.transit {s x : State} {r : RequestUnit} (h : Asked s x r) : Transit s x := by
  have hnotStart : x.ctrl.state ≠ .start := fun e => by simpa [e, StationState.isOperating] using h.operating'
  refine
    { now_le := h.now_eq.ge, pending_eq := h.pending_eq
      brake := fun hl => ?brake, output := fun hl => ?output, measure := fun hl => ?measure, halt := h.halt
      context := h.context, members := fun hl => ?members, start := fun hl => ?startLaw
      ownEntry := fun hl => ?ownEntry, entries := fun hl => ?entries, request := fun hl => ?request
      filter := fun hl => ?filter, bus := fun hl => ?bus, fromStart := fun e => absurd e hnotStart
      notParked := fun e => absurd (h.operating'.symm.trans e) (by simp), commanded_le := h.engine_eq ▸ le_rfl }
  case brake =>
    rw [brakeLaw_iff_fits, State.withState_drive, h.drive_eq]
    exact hl
  case output =>
    rw [outputLaw_iff_fits, State.withState_drive, State.withState_engine, State.withState_start, h.drive_eq, h.engine_eq,
      h.start_eq]
    exact hl
  case measure =>
    rw [measureLaw_iff, State.withState_meas, h.meas_eq]
    exact (measureLaw_iff s).1 hl
  case members =>
    unfold MembersLaw
    rcases h.flag with ⟨ha, hp, -⟩ | ⟨ha, hp, -⟩
    · rw [ha, hp, h.start_eq]
      exact hl
    · rw [ha, hp]
      exact s.peers.memberCount_unmark
  case startLaw =>
    obtain ⟨hconfig, hdigest, hnumber, -, hrest⟩ := hl
    unfold StartLaw
    rw [h.start_eq, h.operating']
    exact ⟨hconfig.trans h.operating, hdigest.trans h.operating, fun _ => hnumber h.operating,
      fun e => absurd e hnotStart, hrest⟩
  case ownEntry =>
    unfold OwnEntryLaw State.ownNumber
    rw [h.start_eq]
    rcases h.flag with ⟨-, hp, -⟩ | ⟨-, hp, -⟩ <;> rw [hp]
    · exact ⟨fun e => absurd (h.operating'.symm.trans e) (by simp), hl.2⟩
    · exact State.clearFlag_ownEntry hl (st := x.ctrl.state) fun e => absurd (h.operating'.symm.trans e) (by simp)
  case entries =>
    unfold EntryLaw
    rw [h.now_eq]
    rcases h.flag with ⟨-, hp, -⟩ | ⟨-, hp, -⟩ <;> rw [hp]
    · exact hl
    · exact State.clearFlag_entryLaw hl
  case request =>
    rw [requestLaw_iff, h.operating']
    refine ⟨?_, fun e => h.holdsJog e hl⟩
    rcases h.flag with ⟨ha, -, hr⟩ | ⟨ha, -, hr⟩ <;> rw [ha, hr]
    · exact h.requestFits hl
    · exact (h.requestFits hl).emptied
  case filter =>
    have hr := h.filter hl
    unfold FilterLaw
    rw [h.start_eq, h.meas_eq, h.now_eq]
    rcases h.flag with ⟨-, -, he⟩ | ⟨-, -, he⟩ <;> rw [he] <;> exact hr
  case bus =>
    obtain ⟨hsound, hsilent⟩ := (busLaw_iff s).1 hl
    rw [busLaw_iff, State.SilentLaw, h.bus_eq, h.start_eq]
    exact ⟨hsound, fun e => (e.elim hnotStart (hsilent.speaks h.operating).2).elim⟩

/-- The e-stop law under a transition: it asks for a state in which the condition may stand only where it already did. -/
theorem Asked.estop {s x : State} {r : RequestUnit} (h : Asked s x r)
    (hcondition : r.estopCondition = s.request.estopCondition) (hsince : r.discrepancySince = s.request.discrepancySince)
    (hchannels : r.estopAOpen = s.request.estopAOpen ∧ r.estopBOpen = s.request.estopBOpen)
    (hclear : EstopLaw s → s.request.estopCondition = false) (hl : EstopLaw s) : EstopLaw x := by
  have hfalse := hclear hl
  obtain ⟨-, -, htimer⟩ := hl
  have hsame : x.request.estopCondition = r.estopCondition ∧ x.request.discrepancySince = r.discrepancySince
      ∧ x.request.estopAOpen = r.estopAOpen ∧ x.request.estopBOpen = r.estopBOpen := by
    rcases h.flag with ⟨-, -, hr⟩ | ⟨-, -, hr⟩ <;> rw [hr] <;> exact ⟨rfl, rfl, rfl, rfl⟩
  obtain ⟨hc, hd, ha, hb⟩ := hsame
  unfold EstopLaw
  rw [hc, hd, ha, hb, hcondition, hsince, hchannels.1, hchannels.2, hfalse]
  exact ⟨fun e => absurd e Bool.false_ne_true, fun e => absurd e Bool.false_ne_true, htimer⟩

/-- In a state that is not resting the e-stop condition is absent. -/
theorem EstopLaw.absent {s : State} (h : EstopLaw s) (hst : s.ctrl.state.isResting = false) :
    s.request.estopCondition = false := by
  obtain ⟨hrests, -⟩ := h
  cases hc : s.request.estopCondition with
  | false => rfl
  | true => rw [hst] at hrests; exact absurd (hrests hc) (by simp)

theorem StationState.isOperating_of_not_resting {st : StationState} (h : st.isResting = false) :
    st.isOperating = true := by
  cases st <;> simp_all [StationState.isResting, StationState.isOperating]

/-- The halt law outside HALTED: no first cause and no cause. -/
theorem haltLaw_of_clear {s : State} (hst : s.ctrl.state ≠ .halted) (hfirst : s.halt.first = none)
    (hcauses : s.halt.causes = []) : HaltLaw s := by
  simp [HaltLaw, hst, hfirst, hcauses]

theorem HaltLaw.clear {s : State} (h : HaltLaw s) (hst : s.ctrl.state ≠ .halted) :
    s.halt.first = none ∧ s.halt.causes = [] := by
  obtain ⟨hfirst, -, hempty, -⟩ := h
  have hb : (s.ctrl.state == .halted) = false := beq_false_of_ne hst
  simpa [bne, hb] using And.intro hfirst hempty

/-- A transition between two states that are not resting, with the halt unit as it stands. -/
theorem Asked.ofMoving {s x : State} {r : RequestUnit} (hnow : x.now = s.now) (hpending : x.pending = s.pending)
    (hstart : x.start = s.start) (hmeas : x.meas = s.meas) (hengine : x.engine = s.engine) (hdrive : x.drive = s.drive)
    (hbus : x.bus = s.bus) (hhalt : x.halt = s.halt) (hflag : FlagKeptOrCleared s x r)
    (hst : s.ctrl.state.isResting = false) (hst' : x.ctrl.state.isResting = false)
    (hfits : RequestLaw s → r.Fits s.ctrl.assembled true) (hfilter : FilterLaw s → FilterLaw { s with request := r })
    (hcontext : ContextLaw s → ContextLaw x)
    (hjog : x.ctrl.state = .jog → RequestLaw s → x.request.HoldsJog x.ctrl.jogDirection) : Asked s x r where
  now_eq := hnow
  pending_eq := hpending
  start_eq := hstart
  meas_eq := hmeas
  engine_eq := hengine
  drive_eq := hdrive
  bus_eq := hbus
  flag := hflag
  operating := StationState.isOperating_of_not_resting hst
  operating' := StationState.isOperating_of_not_resting hst'
  requestFits := hfits
  filter := hfilter
  context := hcontext
  holdsJog := hjog
  halt := fun hl => by
    have hne : s.ctrl.state ≠ .halted := fun e => by simp [e, StationState.isResting] at hst
    have hne' : x.ctrl.state ≠ .halted := fun e => by simp [e, StationState.isResting] at hst'
    obtain ⟨hfirst, hcauses⟩ := hl.clear hne
    exact haltLaw_of_clear hne' (hhalt ▸ hfirst) (hhalt ▸ hcauses)

/-- The request law says of an operating part that its request unit fits. -/
theorem RequestLaw.fits {s : State} (h : RequestLaw s) (hop : s.ctrl.state.isOperating = true) :
    s.request.Fits s.ctrl.assembled true := hop ▸ ((requestLaw_iff s).1 h).1

/-- Such a transition, settled. -/
theorem Asked.advances {s x : State} {r : RequestUnit} (h : Asked s x r) (hst : s.ctrl.state.isResting = false)
    (hcondition : r.estopCondition = s.request.estopCondition) (hsince : r.discrepancySince = s.request.discrepancySince)
    (hchannels : r.estopAOpen = s.request.estopAOpen ∧ r.estopBOpen = s.request.estopBOpen) :
    Advances s (x.settleFrom s.ctrl.state) :=
  h.transit.advances (h.estop hcondition hsince hchannels fun hl => hl.absent hst)

/-- A move to a state with the flag, the tables and the request unit as they stand. -/
theorem Advances.moveTo {s : State} (st : StationState) (c : Option Int) (hst : s.ctrl.state.isResting = false)
    (hst' : st.isResting = false) (hjog : st ≠ .jog)
    (hcontext : ContextLaw s → ContextLaw { s with ctrl := { s.ctrl with state := st, contact := c } }) :
    Advances s ({ s with ctrl := { s.ctrl with state := st, contact := c } }.settleFrom s.ctrl.state) :=
  (Asked.ofMoving (s := s) (x := { s with ctrl := { s.ctrl with state := st, contact := c } }) (r := s.request) rfl rfl rfl rfl rfl rfl rfl rfl (.inl ⟨rfl, rfl, rfl⟩) hst hst'
    (fun hl => hl.fits (StationState.isOperating_of_not_resting hst)) id hcontext
    (fun e => absurd e hjog)).advances hst rfl rfl ⟨rfl, rfl⟩

/-- READY entered, tested, from a state that is not resting: kept in READY with the flag, or on in ASSEMBLING without it. -/
theorem Advances.enterReady {s : State} {r : RequestUnit} {c : Option Int} (hst : s.ctrl.state.isResting = false)
    (hc : ContextLaw s → c = none) (hflag : ContextLaw s → s.ctrl.assembled = true)
    (hfits : RequestLaw s → r.Fits s.ctrl.assembled true) (hfilter : FilterLaw s → FilterLaw { s with request := r })
    (hcondition : r.estopCondition = s.request.estopCondition) (hsince : r.discrepancySince = s.request.discrepancySince)
    (hchannels : r.estopAOpen = s.request.estopAOpen ∧ r.estopBOpen = s.request.estopBOpen) :
    Advances s ({ s with request := r, ctrl := { s.ctrl with contact := c } }.enterReady.settleFrom s.ctrl.state) := by
  refine Asked.advances (r := r) ?_ hst hcondition hsince hchannels
  unfold State.enterReady
  split
  · exact Asked.ofMoving rfl rfl rfl rfl rfl rfl rfl rfl (.inl ⟨rfl, rfl, rfl⟩) hst rfl hfits hfilter
      (fun hl => ⟨fun _ => by simp [hc hl, StationState.hasContact], fun _ => hflag hl,
        fun hu => by simp [StationState.isUnformed] at hu, fun _ => hflag hl⟩) (fun e => by simp at e)
  · exact Asked.ofMoving rfl rfl rfl rfl rfl rfl rfl rfl (.inr ⟨rfl, rfl, rfl⟩) hst rfl hfits hfilter
      (fun hl => ⟨fun _ => by simp [hc hl, StationState.hasContact], fun hf => by
        simp [StationState.isFormed, StationState.isLoaded] at hf, fun _ => rfl, fun hs => by simp [hc hl] at hs⟩)
      (fun e => by simp at e)

/-- ASSEMBLING entered from a state that is not resting. -/
theorem Advances.enterAssembling {s : State} {r : RequestUnit} (hst : s.ctrl.state.isResting = false)
    (hc : ContextLaw s → s.ctrl.contact = none)
    (hfits : RequestLaw s → r.Fits s.ctrl.assembled true) (hfilter : FilterLaw s → FilterLaw { s with request := r })
    (hcondition : r.estopCondition = s.request.estopCondition) (hsince : r.discrepancySince = s.request.discrepancySince)
    (hchannels : r.estopAOpen = s.request.estopAOpen ∧ r.estopBOpen = s.request.estopBOpen) :
    Advances s ({ s with request := r }.enterAssembling.settleFrom s.ctrl.state) := by
  refine Asked.advances (r := r) ?_ hst hcondition hsince hchannels
  exact Asked.ofMoving rfl rfl rfl rfl rfl rfl rfl rfl (.inr ⟨rfl, rfl, rfl⟩) hst rfl hfits hfilter
    (fun hl => ⟨fun _ => by simp [hc hl, StationState.hasContact], fun hf => by
      simp [StationState.isFormed, StationState.isLoaded] at hf, fun _ => rfl, fun hs => by simp [hc hl] at hs⟩)
    (fun e => by simp at e)

/-- The contact record by the state, outside HALTED. -/
theorem ContextLaw.contact_none {s : State} (h : ContextLaw s) (hst : s.ctrl.state ≠ .halted)
    (hno : s.ctrl.state.hasContact = false) : s.ctrl.contact = none := by
  simpa [hno] using h.1 hst

end Sys2Proof.Machine
end

section
/-! The laws under the commands of the start unit and the measurement unit. -/

namespace Sys2Proof.Machine

/-! ## Resets -/

/-- The part with every block at its reset values but for the timers, the inputs and the line (R3, R31, R55, R77, R103, R125,
R143, R173, R184). -/
structure AtResetValues (t : State) : Prop where
  ctrl : t.ctrl = .held
  halt : t.halt = .held
  drive : t.drive = .held
  peers : t.peers = .held
  engine : t.engine = { Engine.held with controlTimer := t.engine.controlTimer }
  bus : t.bus = .held t.bus.idleFrom
  config : t.start.config = none
  digest : t.start.digest = none
  station : t.start.stationNumber = none
  inRange : t.meas.InRange
  counters : t.meas.CountersFit .start
  keys : ∀ k ∈ [t.request.raiseKey, t.request.lowerKey, t.request.resetKey], k.pressed = false
  slots : t.request.slots = Vector.replicate 24 none
  sequence : t.request.sequence = none
  discrepancy : t.request.discrepancySince.isSome = true → t.request.estopAOpen ≠ t.request.estopBOpen
  filter : FilterLaw t

theorem AtResetValues.lawful {t : State} (h : AtResetValues t) : Lawful t := by
  have hentries : ∀ e ∈ t.peers.entries.toList, e = Entry.empty := by simp [h.peers, PeerTable.held]
  have hown : (Table.get t.peers.entries t.ownNumber).getD Entry.empty = Entry.empty := by
    cases hg : Table.get t.peers.entries t.ownNumber with
    | none => rfl
    | some e => exact hentries e (Table.get_mem _ _ _ hg)
  have hcommand : t.command = .none := by rw [State.command, h.slots]; exact Slot.command_replicate
  have hstate : t.ctrl.state = .start := by rw [h.ctrl]; rfl
  refine
    { brake := ?brake, output := ?output, halt := ?halt, estop := ?estop, context := ?context, members := ?members
      lampsAndPark := ?lamps, start := ?startLaw, ownEntry := ⟨fun _ => hentries, hown⟩
      entries := fun e he => by rw [hentries e he]; simp [Entry.coherent, Entry.empty]
      request := ?request, filter := h.filter, measure := (measureLaw_iff t).2 ⟨h.inRange, hstate ▸ h.counters⟩
      bus := ?bus }
  case brake =>
    rw [brakeLaw_iff_fits, h.drive]
    exact Drive.setBrake_fits Drive.held 0 (by rw [hstate]; rfl)
  case output =>
    rw [outputLaw_iff_fits, h.drive, h.engine, hstate]
    refine ⟨by simp [h.config], le_rfl, Nat.zero_le _, t.start.ceiling_of_not_moving, Nat.zero_le _, rfl, rfl, le_rfl⟩
  case halt => exact haltLaw_of_clear (by simp [hstate]) (by rw [h.halt]; rfl) (by rw [h.halt]; rfl)
  case estop =>
    exact ⟨fun _ => by rw [hstate]; rfl, fun _ e => absurd (hstate.symm.trans e) (by simp), h.discrepancy⟩
  case context =>
    unfold ContextLaw
    rw [h.ctrl]
    exact ⟨fun _ => rfl, fun e => absurd e Bool.false_ne_true, fun _ => rfl, fun e => absurd e Bool.false_ne_true⟩
  case members =>
    unfold MembersLaw
    rw [h.ctrl, h.peers, if_neg (by simp [Controller.held])]
    decide
  case lamps =>
    unfold LampsAndParkLaw
    rw [hcommand, h.ctrl, h.halt]
    exact ⟨rfl, rfl, rfl⟩
  case startLaw =>
    unfold StartLaw
    rw [h.config, h.digest, h.station, hstate]
    exact ⟨rfl, rfl, fun e => absurd e Bool.false_ne_true, fun _ => rfl, by simp, by simp⟩
  case request =>
    refine ⟨fun _ => ⟨by simp [h.slots], h.sequence⟩, fun k hk _ => h.keys k hk, fun _ => h.sequence, fun e => ?_⟩
    rw [hstate] at e
    cases e
  case bus =>
    unfold BusLaw
    rw [h.bus, hstate]
    exact ⟨by simp [Bus.attemptsOf, Bus.held], by simp [Bus.held], by simp [Bus.held], by simp [Bus.held],
      Nat.zero_le _, rfl, fun _ => ⟨rfl, rfl, rfl, rfl, h.sequence⟩⟩

theorem Advances.ofReset {s t : State} (h : AtResetValues t) (hnow : s.now ≤ t.now) (hpending : t.pending = s.pending) :
    Advances s t :=
  have hl := h.lawful
  { now_le := hnow
    pending_eq := hpending
    brake := fun _ => hl.brake
    output := fun _ => hl.output
    halt := fun _ => hl.halt
    context := fun _ => hl.context
    members := fun _ => hl.members
    lampsAndPark := fun _ => hl.lampsAndPark
    start := fun _ => hl.start
    ownEntry := fun _ => hl.ownEntry
    entries := fun _ => hl.entries
    request := fun _ => hl.request
    filter := fun _ => hl.filter
    measure := fun _ => hl.measure
    bus := fun _ => hl.bus
    estop := fun _ => hl.estop
    commanded_le := by rw [h.engine]; exact Nat.zero_le _ }

/-- The measured values at reset lie in their ranges. -/
theorem Measurement.held_inRange (i : InputSample) :
    (Measurement.held i).InRange ∧ (Measurement.held i).CountersFit .start := by
  simp [Measurement.InRange, Measurement.CountersFit, Measurement.held, Counter.atRest, strokeLimit,
    StationState.isSeated, beq_eq_decide]

/-- Settles O16: the state after reset stands at the reset values. -/
theorem resetStateIsLawful : Obligations.ResetStateIsLawful :=
  AtResetValues.lawful
    { ctrl := rfl, halt := rfl, drive := rfl, peers := rfl, engine := rfl, bus := rfl, config := rfl, digest := rfl
      station := rfl, inRange := (Measurement.held_inRange Config.quietInputs).1
      counters := (Measurement.held_inRange Config.quietInputs).2
      keys := by decide, slots := rfl, sequence := rfl, discrepancy := by decide, filter := by decide }

theorem StartUnit.see_eq (u : StartUnit) (r : ResetSource) :
    u.see r = { u with
      powerOnSeen := u.powerOnSeen || r == .powerOn, brownOutSeen := u.brownOutSeen || r == .brownOut
      resetPinSeen := u.resetPinSeen || r == .resetPin } := by
  cases r <;> simp [StartUnit.see, beq_eq_decide]

theorem Advances.resetOnset (s : State) (r : ResetSource) : Advances s (s.resetOnset r) := by
  unfold State.resetOnset
  split
  · rw [StartUnit.see_eq]
    exact { Advances.refl s with }
  · dsimp only
    rw [StartUnit.see_eq]
    refine Advances.ofReset ?_ le_rfl rfl
    exact
      { ctrl := rfl, halt := rfl, drive := rfl, peers := rfl, engine := rfl, bus := rfl, config := rfl, digest := rfl
        station := rfl, inRange := (Measurement.held_inRange _).1, counters := (Measurement.held_inRange _).2
        keys := by simp [State.heldReset, RequestUnit.held, KeyInput.atReset], slots := rfl, sequence := rfl
        discrepancy := fun e => absurd e Bool.false_ne_true
        filter := by
          simp [FilterLaw, State.heldReset, StartUnit.held, Measurement.held, RequestUnit.held, KeyInput.atReset] }

theorem Advances.resetEnd (s : State) (i : InputSample) : Advances s (s.resetEnd i) := by
  refine Advances.ofReset ?_ le_rfl rfl
  exact
    { ctrl := rfl, halt := rfl, drive := rfl, peers := rfl, engine := rfl, bus := rfl, config := rfl, digest := rfl
      station := rfl, inRange := (Measurement.held_inRange i).1, counters := (Measurement.held_inRange i).2
      keys := by
        simp [State.resetEnd, State.heldReset, RequestUnit.startFilters, RequestUnit.held, KeyInput.atReset]
      slots := rfl, sequence := rfl
      discrepancy := fun e he => by
        simp only [State.resetEnd, State.heldReset, RequestUnit.startFilters, RequestUnit.held] at e he
        rw [if_pos he] at e
        cases e
      filter := by
        simp [FilterLaw, State.resetEnd, State.heldReset, StartUnit.held, Measurement.held, Measurement.startFilters,
          RequestUnit.held, RequestUnit.startFilters, KeyInput.atReset] }

theorem execResetOnset_advances {m : Time} {r : ResetSource} {s t : State} (h : execResetOnset m r s = .next t) :
    Advances s t := by
  cases h
  exact (Advances.tick s m).trans (Advances.resetOnset _ r)

theorem execResetEnd_advances {m : Time} {i : InputSample} {s t : State} (h : execResetEnd m i s = .next t) :
    Advances s t := by
  unfold execResetEnd at h
  split at h <;> cases h
  · exact (Advances.tick s m).trans (Advances.resetEnd _ i)
  · exact Advances.refl s

/-! ## The start -/

theorem execHoldOffExpiry_advances {straps : BitVec 5} {s t : State} (h : execHoldOffExpiry straps s = .next t) :
    Advances s t :=
  Advances.onTimer (fun due _ _ => { Advances.refl (s.tick due) with }) h

theorem readOptions_inRange {block : List Byte} {o : Options} (h : readOptions block = some o) : o.inRange = true := by
  unfold readOptions at h
  split at h
  · next hb =>
    cases h
    exact (Bool.and_eq_true _ _ ▸ hb).2
  · cases h

/-- The start writes of a valid block, in ASSEMBLING, before anything is settled. -/
theorem Transit.enterFromStart {s : State} {n : Nat} {o : Options} (digest : Word16) (hst : s.ctrl.state = .start)
    (hn : 1 ≤ n ∧ n ≤ 24) (ho : o.inRange = true) :
    Transit s ({ s with
      start := { s.start with stationNumber := some n, config := some o, digest := some digest }
      drive := { s.drive with creepReference := s.meas.stroke }
      bus := s.bus.restartTimer s.now .fast } : State).enterAssembling := by
  refine
    { now_le := le_rfl, pending_eq := rfl, brake := id, output := fun hl => ?output, measure := id
      halt := fun hl => ?halt, context := fun hl => ?context, members := fun _ => ?members, start := fun hl => ?startLaw
      ownEntry := fun hl => ?ownEntry, entries := State.clearFlag_entryLaw, request := fun hl => ?request
      filter := id, bus := fun hl => ?bus, fromStart := fun _ => hst, notParked := fun _ => by simp [hst]
      commanded_le := le_rfl }
  case output =>
    have hzero : ∀ u : StartUnit, u.ceiling s.ctrl.state = 0 := fun u => u.ceiling_of_not_moving (by rw [hst]; rfl)
    obtain ⟨-, hcommanded, hceiling, -, hmax, hrest⟩ := hl
    refine ⟨?_, hcommanded, ?_, fun _ => hzero _, hmax, hrest⟩
    · rintro _ ⟨⟩
      exact ho
    · rw [hzero] at hceiling
      exact hceiling.trans (Nat.zero_le _)
  case halt =>
    obtain ⟨hfirst, hcauses⟩ := hl.clear (by simp [hst])
    exact haltLaw_of_clear (by simp) hfirst hcauses
  case context =>
    have hnone : s.ctrl.contact = none := hl.contact_none (by simp [hst]) (by rw [hst]; rfl)
    exact ⟨fun _ => by simp [hnone, StationState.hasContact],
      fun e => by simp [StationState.isFormed, StationState.isLoaded] at e, fun _ => rfl, fun e => by simp [hnone] at e⟩
  case members =>
    unfold MembersLaw
    rw [if_neg (by simp)]
    exact s.peers.memberCount_unmark
  case startLaw =>
    refine ⟨rfl, rfl, fun _ => rfl, fun e => by simp at e, ?_, ?_⟩
    · rintro _ ⟨⟩
      exact hn
    · rintro _ ⟨⟩
      exact ho
  case ownEntry =>
    obtain ⟨hall, -⟩ := hl
    have hempty := hall (by rw [hst]; rfl)
    refine ⟨fun e => by simp [StationState.isOperating] at e, ?_⟩
    show (Table.get (Table.map Entry.unmark s.peers.entries) n).getD Entry.empty = Entry.empty
    rw [Table.get_map]
    cases hg : Table.get s.peers.entries n with
    | none => rfl
    | some e =>
      rw [hempty e (Table.get_mem _ _ _ hg)]
      rfl
  case request =>
    obtain ⟨-, hkeys, -⟩ := hl
    exact ⟨fun _ => ⟨by simp, rfl⟩, hkeys, fun _ => rfl, fun e => by simp at e⟩
  case bus =>
    obtain ⟨hsound, -⟩ := (busLaw_iff s).1 hl
    refine (busLaw_iff _).2 ⟨hsound, fun e => ?_⟩
    rcases e with e | e <;> cases e

/-- Where the e-stop condition is raised in an operating state, the e-stop law holds of what comes of it. -/
theorem estopLaw_takeCauses {x : State} {causes : List Cause} (origin : Nat) (hop : x.ctrl.state.isOperating = true)
    (hraised : x.request.estopCondition = true → Cause.estop ∈ causes)
    (htimer : x.request.discrepancySince.isSome = true → x.request.estopAOpen ≠ x.request.estopBOpen) :
    EstopLaw (x.takeCauses causes origin) := by
  obtain ⟨-, -, -, hrequest, -⟩ := x.takeCauses_frame causes origin
  have hstate : x.request.estopCondition = true →
      (x.takeCauses causes origin).ctrl.state = .halted ∧ Cause.estop ∈ (x.takeCauses causes origin).halt.causes := by
    intro hc
    have hmem := hraised hc
    rcases x.takeCauses_cases causes origin with ⟨hnil | hno, -⟩ | ⟨-, hh, heq⟩ | ⟨c, -, -, -, hh, hcauses, -⟩
    · simp [hnil] at hmem
    · rw [hop] at hno
      cases hno
    · rw [heq]
      exact ⟨hh, (Cause.mem_insertAll _ _ _).2 (.inl hmem)⟩
    · exact ⟨hh, hcauses ▸ (Cause.mem_insertAll _ _ _).2 (.inl hmem)⟩
  unfold EstopLaw
  rw [hrequest]
  exact ⟨fun hc => by rw [(hstate hc).1]; rfl, fun hc _ => (hstate hc).2, htimer⟩

theorem Advances.enterFromStart {s : State} {n : Nat} {o : Options} (digest : Word16) (hst : s.ctrl.state = .start)
    (hn : 1 ≤ n ∧ n ≤ 24) (ho : o.inRange = true) : Advances s (s.enterFromStart n o digest) := by
  have htransit := Transit.enterFromStart digest hst hn ho
  unfold State.enterFromStart
  dsimp only
  generalize hx : State.enterAssembling _ = x at htransit ⊢
  have hsettle := htransit.keeps
  rw [hst] at hsettle
  generalize hy : x.settleFrom .start = y at hsettle ⊢
  have htake := Advances.takeCauses y (levelCauses.filter y.conditionPresent)
  refine
    { hsettle.trans htake.toKeeps with
      estop := fun hl => estopLaw_takeCauses 0 ?operating (fun hc => ?raised) ?timer
      commanded_le := htake.commanded_le.trans (hy ▸ (x.settleFrom_commanded_le _).trans htransit.commanded_le) }
  case operating => rw [← hy, x.settleFrom_state, x.restsIn_isOperating, ← hx]; rfl
  case raised => simpa [levelCauses, State.conditionPresent] using hc
  case timer =>
    rw [← hy, x.settleFrom_request]
    rcases x.rested_request_cases with hr | ⟨-, hr⟩ <;> rw [hr, ← hx] <;> exact hl.2.2

theorem Advances.enterConfigFault {s : State} {station : Option Nat} (hst : s.ctrl.state = .start)
    (hn : ∀ n ∈ station, 1 ≤ n ∧ n ≤ 24) : Advances s (s.enterConfigFault station) := by
  have htransit : Transit s (({ s with
      start := { s.start with stationNumber := station }
      bus := if station.isSome then s.bus.restartTimer s.now .slow else s.bus } : State).withState .configFault) := by
    refine
      { now_le := le_rfl, pending_eq := rfl, brake := id, output := id, measure := id, halt := fun hl => ?halt
        context := fun hl => ?context, members := id, start := fun hl => ?startLaw, ownEntry := fun hl => ?ownEntry
        entries := id, request := fun hl => ?request, filter := id, bus := fun hl => ?bus
        fromStart := fun _ => hst, notParked := fun _ => by simp [hst], commanded_le := le_rfl }
    case halt =>
      obtain ⟨hfirst, hcauses⟩ := hl.clear (by simp [hst])
      exact haltLaw_of_clear (by simp) hfirst hcauses
    case context =>
      obtain ⟨hcontact, -, hunformed, hflag⟩ := hl
      rw [hst] at hcontact hunformed
      exact ⟨fun _ => hcontact (by simp), fun e => by simp [StationState.isFormed, StationState.isLoaded] at e,
        fun _ => hunformed rfl, hflag⟩
    case startLaw =>
      obtain ⟨hconfig, hdigest, -, -, -, hrange⟩ := hl
      rw [hst] at hconfig hdigest
      exact ⟨hconfig, hdigest, fun e => by simp [StationState.isOperating] at e, fun e => by simp at e, hn, hrange⟩
    case ownEntry =>
      obtain ⟨hall, -⟩ := hl
      have hempty := hall (by rw [hst]; rfl)
      refine ⟨fun _ => hempty, ?_⟩
      cases hg : Table.get s.peers.entries (station.getD 0) with
      | none => exact congrArg (Option.getD · Entry.empty) hg
      | some e => exact (congrArg (Option.getD · Entry.empty) hg).trans (hempty e (Table.get_mem _ _ _ hg))
    case request =>
      obtain ⟨hclear, hkeys, hsilent, -⟩ := hl
      have hnone : s.request.sequence = none := hsilent (.inl (by rw [hst]; rfl))
      exact ⟨hclear, hkeys, fun _ => hnone, fun e => by simp at e⟩
    case bus =>
      obtain ⟨hsound, hsilent⟩ := (busLaw_iff s).1 hl
      obtain ⟨-, hquiet⟩ := hsilent (.inl hst)
      cases station with
      | none => exact (busLaw_iff _).2 ⟨hsound, fun _ => ⟨rfl, hquiet⟩⟩
      | some n => exact (busLaw_iff _).2 ⟨hsound, fun e => by rcases e with e | e <;> cases e⟩
  have := htransit.advances (fun ⟨_, _, htimer⟩ => ⟨fun _ => rfl, fun _ e => by simp at e, htimer⟩)
  rwa [hst] at this

theorem execOptionReadEnd_advances {data : BitVec 280} {s t : State} (h : execOptionReadEnd data s = .next t) :
    Advances s t := by
  refine Advances.onTimer (fun due _ _ => ?_) h
  generalize s.tick due = s
  have hread : Advances s { s with start := { s.start with optionRead := none } } := { Advances.refl s with }
  refine hread.trans ?_
  generalize ({ s with start := { s.start with optionRead := none } } : State) = s
  dsimp only
  split
  · next hst =>
    unfold State.judgeStart
    have hvalid : ∀ n ∈ s.start.strapReading.filter validStation, 1 ≤ n ∧ n ≤ 24 := fun n hn => by
      simpa [validStation] using (Option.mem_filter_iff.1 hn).2
    split
    · next n hn =>
      split
      · next o ho => exact Advances.enterFromStart _ hst (hvalid n hn) (readOptions_inRange ho)
      · exact Advances.enterConfigFault hst (by rintro _ ⟨⟩; exact hvalid n hn)
    · exact Advances.enterConfigFault hst (by simp)
  · exact Advances.refl _

/-! ## The drive supply -/

/-- An engine that comes down, handed over to the drive unit. -/
theorem Advances.lowerEngine {s : State} (e : Engine) (hle : e.commanded ≤ s.engine.commanded)
    (hlast : OutputLaw s → e.commanded ≤ e.lastCeiling ∧ e.lastCeiling ≤ s.start.ceiling s.ctrl.state) :
    Advances s ({ s with engine := e } : State).handOver :=
  { Advances.refl s with
    brake := fun hl => Drive.Fits.handOver hl _ _ _ _
    output := fun hl => OutputFits.of_handOver hl.1 (hlast hl).1 (hlast hl).2 _ _ _
    commanded_le := hle }

theorem Advances.clampAtOnce (s : State) : Advances s ({ s with engine := s.engine.clampAtOnce } : State).handOver :=
  Advances.lowerEngine _ (Nat.zero_le _) fun ⟨_, _, hceiling, _⟩ => ⟨Nat.zero_le _, hceiling⟩

/-- A filter's moment written at the present moment, while no reset is held. -/
theorem filterLaw_write {x : Option Time} {s : State} (hrun : s.start.resetHeld = false) (hx : x = some s.now) :
    x.isSome = (!s.start.resetHeld) ∧ ∀ t ∈ x, t ≤ s.now := by
  subst hx
  simp [hrun]

/-- The start unit with the supply-low indication written (R194). -/
def StartUnit.setSupply (u : StartUnit) (low : Bool) (now : Time) : StartUnit :=
  { u with supplyLow := low, supplyFilterFrom := some now }

theorem StartUnit.ceiling_eq {u : StartUnit} {o : Options} (ho : u.config = some o) (st : StationState) :
    u.ceiling st = if o.policy = .derate ∧ u.supplyLow = true then o.fullCeiling st / 2 else o.fullCeiling st := by
  rw [StartUnit.ceiling, ho]

theorem StartUnit.ceiling_setSupply_off (u : StartUnit) (now : Time) (st : StationState) :
    u.ceiling st ≤ (u.setSupply false now).ceiling st := by
  cases ho : u.config with
  | none => simp [StartUnit.ceiling, ho]
  | some o =>
    rw [StartUnit.ceiling_eq ho, StartUnit.ceiling_eq (u := u.setSupply false now) ho]
    simp only [StartUnit.setSupply, Bool.false_eq_true, and_false, if_false]
    split <;> omega

theorem StartUnit.ceiling_setSupply_of_not_derate {u : StartUnit} (low : Bool) (now : Time) (st : StationState)
    (hpolicy : u.policyIs .derate = false) : (u.setSupply low now).ceiling st = u.ceiling st := by
  cases ho : u.config with
  | none => simp [StartUnit.ceiling, StartUnit.setSupply, ho]
  | some o =>
    have hne : o.policy ≠ .derate := by simpa [StartUnit.policyIs, ho] using hpolicy
    rw [StartUnit.ceiling_eq ho, StartUnit.ceiling_eq (u := u.setSupply low now) ho]
    simp [hne]

/-- Under DERATE the onset of the indication halves the ceiling (R87). -/
theorem StartUnit.ceiling_setSupply_derate {u : StartUnit} (now : Time) (st : StationState)
    (hpolicy : u.policyIs .derate = true) (hlow : u.supplyLow = false) :
    (u.setSupply true now).ceiling st = u.ceiling st / 2 := by
  cases ho : u.config with
  | none => simp [StartUnit.policyIs, ho] at hpolicy
  | some o =>
    have heq : o.policy = .derate := by simpa [StartUnit.policyIs, ho] using hpolicy
    rw [StartUnit.ceiling_eq ho, StartUnit.ceiling_eq (u := u.setSupply true now) ho]
    simp [heq, hlow, StartUnit.setSupply]

theorem FilterLaw.setSupply {s : State} (h : FilterLaw s) (low : Bool) (hrun : s.start.resetHeld = false) :
    FilterLaw { s with start := s.start.setSupply low s.now } := by
  unfold FilterLaw at *
  rw [List.forall_mem_cons] at *
  exact ⟨filterLaw_write hrun rfl, h.2⟩

/-- The supply-low indication written, where it does not lower the ceiling. -/
theorem Advances.setSupply {s : State} (low : Bool) (hrun : s.start.resetHeld = false)
    (hceiling : ∀ st, s.start.ceiling st ≤ (s.start.setSupply low s.now).ceiling st) :
    Advances s { s with start := s.start.setSupply low s.now } :=
  { Advances.refl s with
    output := fun ⟨hrange, hcommanded, hlast, _, hrest⟩ =>
      ⟨hrange, hcommanded, hlast.trans (hceiling _), StartUnit.ceiling_of_not_moving _, hrest⟩
    filter := fun hl => hl.setSupply low hrun }

/-- The onset under DERATE: indication, ceiling and output fall together (R87, R88). -/
theorem Advances.derate {s : State} (hrun : s.start.resetHeld = false) (hpolicy : s.start.policyIs .derate = true)
    (hlow : s.start.supplyLow = false) :
    Advances s (State.supplyOnset { s with start := s.start.setSupply true s.now }) := by
  have hpolicy' : (s.start.setSupply true s.now).policyIs .derate = true := hpolicy
  have hceiling := StartUnit.ceiling_setSupply_derate s.now s.ctrl.state hpolicy hlow
  have hle : s.engine.derateAtOnce.commanded ≤ s.engine.commanded := Nat.min_le_left _ _
  have hfits : OutputLaw s → s.engine.derateAtOnce.commanded ≤ s.engine.derateAtOnce.lastCeiling
      ∧ s.engine.derateAtOnce.lastCeiling ≤ (s.start.setSupply true s.now).ceiling s.ctrl.state :=
    fun ⟨_, _, hlast, _⟩ => ⟨Nat.min_le_right _ _, hceiling ▸ Nat.div_le_div_right hlast⟩
  unfold State.supplyOnset
  simp only [hpolicy', if_true]
  split
  · exact
      { Advances.refl s with
        brake := fun hl => Drive.Fits.handOver hl _ _ _ _
        output := fun hl =>
          OutputFits.of_handOver (u := s.start.setSupply true s.now) hl.1 (hfits hl).1 (hfits hl).2 _ _ _
        filter := fun hl => hl.setSupply true hrun
        commanded_le := hle }
  · next hsame =>
    have heq : s.engine.derateAtOnce.commanded = s.engine.commanded := le_antisymm hle (not_lt.1 hsame)
    exact
      { Advances.refl s with
        output := fun hl => by
          obtain ⟨hcommanded, hlast⟩ := hfits hl
          obtain ⟨hrange, -, -, -, hmax, hcopy, hdirection, happlied⟩ := hl
          exact ⟨hrange, hcommanded, hlast, StartUnit.ceiling_of_not_moving _, (Nat.div_le_self _ _).trans hmax,
            hcopy.trans heq.symm, hdirection, happlied⟩
        filter := fun hl => hl.setSupply true hrun
        commanded_le := hle }

theorem execSupplyLowChange_advances {m : Time} {low : Bool} {s t : State}
    (h : execSupplyLowChange m low s = .next t) : Advances s t := by
  unfold execSupplyLowChange at h
  split at h
  · cases h
    exact Advances.refl s
  · next hne =>
    refine Advances.onFilter (fun now hrun => ?_) h
    have hrun' : (s.tick now).start.resetHeld = false := hrun
    have hne' : ¬low = (s.tick now).start.supplyLow := hne
    generalize s.tick now = s at hrun' hne' ⊢
    show Advances s (if low then State.supplyOnset { s with start := s.start.setSupply low s.now }
      else { s with start := s.start.setSupply low s.now })
    cases low with
    | false => exact Advances.setSupply false hrun' (s.start.ceiling_setSupply_off s.now)
    | true =>
      cases hpolicy : s.start.policyIs .derate with
      | true => exact Advances.derate hrun' hpolicy (by simpa using hne')
      | false =>
        refine (Advances.setSupply true hrun' fun st =>
          (StartUnit.ceiling_setSupply_of_not_derate true s.now st hpolicy).ge).trans ?_
        have hpolicy' : (s.start.setSupply true s.now).policyIs .derate = false := hpolicy
        simp only [if_true, State.supplyOnset, hpolicy', Bool.false_eq_true, if_false]
        split
        · exact Advances.takeCauses _ _
        · exact Advances.refl _

end Sys2Proof.Machine
end

section
/-! The laws under the commands of the measurement unit, the control timer and the drive unit's timers. -/

namespace Sys2Proof.Machine

section MeasWrites

variable {s : State}

/-- A write of the measurement unit, by its ranges, its counters and the moments of its filters. -/
theorem Advances.measured (m : Measurement) (hranges : s.meas.InRange → m.InRange)
    (hcounters : ∀ st, s.meas.CountersFit st → m.CountersFit st)
    (hfilters : m.upperEndFrom = s.meas.upperEndFrom ∧ m.lowerEndFrom = s.meas.lowerEndFrom
      ∧ m.overtravelFrom = s.meas.overtravelFrom) : Advances s { s with meas := m } :=
  Advances.ofMeas m
    (fun hl => (measureLaw_iff _).2 (((measureLaw_iff s).1 hl).imp hranges (hcounters _)))
    (fun hl => by
      obtain ⟨hupper, hlower, hover⟩ := hfilters
      unfold FilterLaw
      dsimp only
      rw [hupper, hlower, hover]
      exact hl)

end MeasWrites

/-! ## The encoder -/

theorem countStroke_bounds {x : Int} (step : EncoderStep) (h : -strokeLimit ≤ x ∧ x ≤ strokeLimit) :
    -strokeLimit ≤ countStroke x step ∧ countStroke x step ≤ strokeLimit := by
  unfold countStroke
  split
  · split <;> omega
  · split <;> omega
  · exact h

/-- What the creep watch leaves: all but the creep reference and the extreme, which stays present or absent. -/
theorem Drive.watchCreep_spec (d : Drive) (limit x : Int) :
    (d.watchCreep limit x).1 = { d with
        creepReference := (d.watchCreep limit x).1.creepReference, extreme := (d.watchCreep limit x).1.extreme }
      ∧ (d.watchCreep limit x).1.extreme.isSome = d.extreme.isSome := by
  unfold Drive.watchCreep
  split
  · next he => split <;> simp [he]
  · exact ⟨rfl, rfl⟩
  · split <;> exact ⟨rfl, rfl⟩

theorem Advances.watchCreep (s : State) (limit x : Int) : Advances s { s with drive := (s.drive.watchCreep limit x).1 } := by
  obtain ⟨heq, hextreme⟩ := s.drive.watchCreep_spec limit x
  rw [heq]
  exact Advances.ofDrive _
    (fun ⟨happlied, hresting, hrelease, hreleasing, hdelay, hpresent, hmoving⟩ =>
      ⟨happlied, hresting, hrelease, hreleasing, hdelay, hextreme.trans hpresent, hmoving⟩) id

/-- The creep watch of one count, its cause, and the judgement of the new lift. -/
theorem Advances.judgeCreep (s : State) (limit x : Int) :
    Advances s (if (s.drive.watchCreep limit x).2 then
        State.takeCauses { s with drive := (s.drive.watchCreep limit x).1 } [.creep]
      else { s with drive := (s.drive.watchCreep limit x).1 }).settle := by
  refine (Advances.watchCreep s limit x).trans ?_
  split
  · exact (Advances.takeCauses _ _).trans (Advances.settle _)
  · exact Advances.settle _

theorem Advances.countEdge (s : State) (step : EncoderStep) :
    Advances s (s.countEdge (countStroke s.meas.stroke step)) := by
  have hstroke : Advances s { s with meas := { s.meas with stroke := countStroke s.meas.stroke step } } :=
    Advances.measured _ (fun ⟨hx, hrest⟩ => ⟨countStroke_bounds step hx, hrest⟩) (fun _ => id) ⟨rfl, rfl, rfl⟩
  refine hstroke.trans ?_
  unfold State.countEdge
  dsimp only
  split
  · exact Advances.judgeCreep { s with meas := { s.meas with stroke := countStroke s.meas.stroke step } }
      s.start.creepLimit (countStroke s.meas.stroke step)
  · exact Advances.refl _

theorem execEncoderEdge_advances {m : Time} {a b : Bool} {s t : State} (h : execEncoderEdge m a b s = .next t) :
    Advances s t := by
  refine Advances.onEvent (fun _ => ?_) h
  generalize s.tick m = s
  have hlevels : Advances s { s with meas := { s.meas with encoderA := a, encoderB := b } } :=
    Advances.measured _ id (fun _ => id) ⟨rfl, rfl, rfl⟩
  refine hlevels.trans ?_
  dsimp only
  split
  · exact Advances.refl _
  · exact Advances.takeCauses _ _
  · split
    · exact Advances.refl _
    · exact Advances.countEdge _ _

/-! ## The sample timer -/

theorem ringVelocity_bounds (ring : Vector Int 11) : -999 ≤ ringVelocity ring ∧ ringVelocity ring ≤ 999 := by
  unfold ringVelocity
  omega

/-- The stall counter is no law's. -/
theorem Advances.setStall (s : State) (n : Nat) : Advances s { s with drive := { s.drive with stall := n } } :=
  Advances.ofDrive _ id id

theorem Advances.velocityUpdate (s : State) : Advances s s.velocityUpdate := by
  unfold State.velocityUpdate
  dsimp only
  split
  · exact Advances.setStall _ _
  · exact (Advances.setStall s 0).trans (Advances.takeCauses _ _)

theorem execSampleTimerExpiry_advances {s t : State} (h : execSampleTimerExpiry s = .next t) : Advances s t := by
  refine Advances.onTimer (fun due _ _ => ?_) h
  generalize s.tick due = s
  have hsample : Advances s { s with meas := { s.meas.sample with
      sampleTimer := some (due + Timing.samplePeriod), converterRead := some (s.now + Timing.converterRead) } } :=
    Advances.measured _ (fun ⟨hx, _, hrest⟩ => ⟨hx, ringVelocity_bounds _, hrest⟩) (fun _ => id) ⟨rfl, rfl, rfl⟩
  exact hsample.trans (Advances.velocityUpdate _)

/-! ## The converter read -/

theorem Counter.step_running (c : Counter) (holds : Bool) : (c.step holds).running = c.running := by
  unfold Counter.step
  split <;> rfl

theorem Counter.step_value_le {c : Counter} (h : c.value ≤ 5) (holds : Bool) : (c.step holds).value ≤ 5 := by
  unfold Counter.step
  split
  · cases holds
    · exact le_rfl
    · exact (Nat.sub_le _ _).trans h
  · exact h

theorem Counter.restart_running (c : Counter) : c.restart.running = c.running := by
  unfold Counter.restart
  split <;> rfl

theorem Counter.restart_value_le {c : Counter} (h : c.value ≤ 5) : c.restart.value ≤ 5 := by
  unfold Counter.restart
  split
  · exact le_rfl
  · exact h

theorem Measurement.countersFit_iff (m : Measurement) (st : StationState) :
    m.CountersFit st ↔ m.contact.running = (st == .seating) ∧ m.release.running = (st == .unseating)
      ∧ m.unseat.running = st.isSeated ∧ m.contact.value ≤ 5 ∧ m.release.value ≤ 5 ∧ m.unseat.value ≤ 5 := by
  simp [Measurement.CountersFit]

/-- The unseat counter after a good sample runs as before, and a completed one returns to 5. -/
theorem Counter.unseat_after {c : Counter} (h : c.value ≤ 5) :
    (if c.done then Counter.started else c).running = c.running ∧ (if c.done then Counter.started else c).value ≤ 5 := by
  split
  · next hd =>
    simp only [Counter.done, Bool.and_eq_true] at hd
    exact ⟨hd.1.symm, le_rfl⟩
  · exact ⟨rfl, h⟩

theorem State.goodSample_counters {s : State} {st : StationState} (load : Nat) (h : s.meas.CountersFit st) :
    (s.goodSample load).CountersFit st := by
  rw [Measurement.countersFit_iff] at h ⊢
  obtain ⟨hcontact, hrelease, hunseat, hcontactValue, hreleaseValue, hunseatValue⟩ := h
  obtain ⟨hrunning, hvalue⟩ := Counter.unseat_after (Counter.step_value_le hunseatValue (s.unseatTest load))
  exact ⟨(Counter.step_running _ _).trans hcontact, (Counter.step_running _ _).trans hrelease,
    (hrunning.trans (Counter.step_running _ _)).trans hunseat, Counter.step_value_le hcontactValue _,
    Counter.step_value_le hreleaseValue _, hvalue⟩

theorem scaleLoad_le (z fullScale raw : Nat) : scaleLoad z fullScale raw ≤ 4000 := Nat.min_le_right _ _

theorem State.goodSample_inRange {s : State} {load : Nat} (hload : load ≤ 4000) (h : s.meas.InRange) :
    (s.goodSample load).InRange := by
  obtain ⟨hx, hv, -⟩ := h
  refine ⟨hx, hv, hload, Nat.zero_le _, rfl, ?_⟩
  show s.meas.overloadStep _ _ ≤ 3
  unfold Measurement.overloadStep
  split
  · exact Nat.min_le_right _ _
  · exact Nat.zero_le _

theorem Advances.goodSample (s : State) (z fullScale raw : Nat) :
    Advances s { s with meas := s.goodSample (scaleLoad z fullScale raw) } :=
  Advances.measured _ (State.goodSample_inRange (scaleLoad_le _ _ _)) (fun _ => State.goodSample_counters _) ⟨rfl, rfl, rfl⟩

theorem Advances.contactConfirmed {s : State} (hst : s.ctrl.state = .seating) : Advances s s.contactConfirmed := by
  have := Advances.moveTo (s := s) .holding (some s.meas.latchedStroke) (by rw [hst]; rfl) rfl (by simp) fun hl => by
    have hset : s.ctrl.assembled = true := hl.2.1 (by rw [hst]; rfl)
    exact ⟨fun _ => rfl, fun _ => hset, fun e => absurd e Bool.false_ne_true, fun _ => hset⟩
  rwa [hst] at this

theorem Advances.releaseConfirmed {s : State} (hst : s.ctrl.state = .unseating) : Advances s s.releaseConfirmed := by
  have hresting : s.ctrl.state.isResting = false := by rw [hst]; rfl
  have := Advances.enterReady (s := s) (r := s.request) (c := none) hresting (fun _ => rfl)
    (fun hl => hl.2.1 (by rw [hst]; rfl)) (fun hl => hl.fits (StationState.isOperating_of_not_resting hresting)) id rfl rfl
    ⟨rfl, rfl⟩
  rwa [hst] at this

theorem Advances.confirm (s : State) : Advances s s.confirm := by
  unfold State.confirm
  split
  · next h => exact Advances.contactConfirmed h.1
  · split
    · next h => exact Advances.releaseConfirmed h.1
    · exact Advances.refl _

theorem Advances.jogClampAtOnce (s : State) (before : Nat) : Advances s (s.jogClampAtOnce before) := by
  unfold State.jogClampAtOnce
  split
  · exact Advances.clampAtOnce s
  · exact Advances.refl _

theorem Advances.takeSample (s : State) (raw : Nat) : Advances s (s.takeSample raw) :=
  (((Advances.goodSample s _ _ raw).trans (Advances.takeCauses _ _)).trans (Advances.confirm _)).trans
    (Advances.jogClampAtOnce _ _)

theorem Measurement.miss_inRange {m : Measurement} (h : m.InRange) : m.miss.InRange := by
  obtain ⟨hx, hv, hload, hmiss, hsilent, -⟩ := h
  refine ⟨hx, hv, hload, Nat.min_le_right _ _, ?_, Nat.zero_le _⟩
  show decide (5 ≤ m.missCount + 1) = (min (m.missCount + 1) 5 == 5)
  rw [beq_eq_decide]
  exact decide_eq_decide.2 (by omega)

theorem Measurement.miss_counters {m : Measurement} {st : StationState} (h : m.CountersFit st) :
    m.miss.CountersFit st := by
  rw [Measurement.countersFit_iff] at h ⊢
  obtain ⟨hcontact, hrelease, hunseat, hcontactValue, hreleaseValue, hunseatValue⟩ := h
  exact ⟨(Counter.restart_running _).trans hcontact, (Counter.restart_running _).trans hrelease,
    (Counter.restart_running _).trans hunseat, Counter.restart_value_le hcontactValue,
    Counter.restart_value_le hreleaseValue, Counter.restart_value_le hunseatValue⟩

theorem Advances.takeMiss (s : State) : Advances s s.takeMiss := by
  have hmiss : Advances s { s with meas := s.meas.miss } :=
    Advances.measured _ Measurement.miss_inRange (fun _ => Measurement.miss_counters) ⟨rfl, rfl, rfl⟩
  refine hmiss.trans ?_
  unfold State.takeMiss
  dsimp only
  split
  · exact Advances.takeCauses _ _
  · exact Advances.refl _

theorem execConverterReadEnd_advances {reply : BitVec 16} {s t : State} (h : execConverterReadEnd reply s = .next t) :
    Advances s t := by
  refine Advances.onTimer (fun due _ _ => ?_) h
  generalize s.tick due = s
  have hread : Advances s { s with meas := { s.meas with converterRead := none } } :=
    Advances.measured _ id (fun _ => id) ⟨rfl, rfl, rfl⟩
  refine hread.trans ?_
  dsimp only
  split
  · exact Advances.takeSample _ _
  · exact Advances.takeMiss _

/-! ## The jack switches -/

theorem Advances.endClampAtOnce (s : State) (dir : Direction) : Advances s (s.endClampAtOnce dir) := by
  unfold State.endClampAtOnce
  split
  · exact Advances.clampAtOnce s
  · exact Advances.refl _

theorem Advances.setSwitch {s : State} (active : Bool) (w : JackSwitch) (hrun : s.start.resetHeld = false) :
    Advances s { s with meas := s.meas.setSwitch active s.now w } := by
  refine Advances.ofMeas _ (fun hl => ?_) (fun hl => ?_)
  · cases w <;> exact hl
  · have hnow := filterLaw_write hrun (rfl : some s.now = some s.now)
    unfold FilterLaw at *
    simp only [List.forall_mem_cons] at hl ⊢
    obtain ⟨hsupply, hupper, hlower, hover, hrest⟩ := hl
    cases w
    · exact ⟨hsupply, hnow, hlower, hover, hrest⟩
    · exact ⟨hsupply, hupper, hnow, hover, hrest⟩
    · exact ⟨hsupply, hupper, hlower, hnow, hrest⟩

theorem execSwitchFilterChange_advances {m : Time} {w : JackSwitch} {active : Bool} {s t : State}
    (h : execSwitchFilterChange m w active s = .next t) : Advances s t := by
  unfold execSwitchFilterChange at h
  split at h
  · cases h
    exact Advances.refl s
  · refine Advances.onFilter (fun now hrun => ?_) h
    have hrun' : (s.tick now).start.resetHeld = false := hrun
    generalize s.tick now = s at hrun' ⊢
    refine (Advances.setSwitch active w hrun').trans ?_
    dsimp only
    split
    · cases w
      · exact Advances.endClampAtOnce _ _
      · exact Advances.endClampAtOnce _ _
      · exact Advances.takeCauses _ _
    · exact Advances.refl _

/-! ## The control timer and the drive unit's timers -/

/-- The output formed at an expiry: within the ceiling, and at most R above the one before (R95, R96). -/
theorem Engine.expiry_commanded_le (e : Engine) (due : Time) (c d r : Nat) (m : Option Direction) :
    (e.expiry due c d r m).commanded ≤ c ∧ (e.expiry due c d r m).commanded ≤ e.commanded + r := by
  unfold Engine.expiry ramp
  dsimp only
  repeat' split
  all_goals omega

theorem Keeps.formOutput (s : State) (due : Time) : Keeps s (s.formOutput due) :=
  { Advances.refl s with
    brake := fun hl => Drive.Fits.handOver hl _ _ _ _
    output := fun hl => OutputFits.of_handOver hl.1 (Engine.expiry_commanded_le _ _ _ _ _ _).1 le_rfl _ _ _ }

/-- All that CONTROL_TIMER_EXPIRY does to the laws, and to the commanded output. -/
theorem execControlTimerExpiry_keeps {s t : State} (h : execControlTimerExpiry s = .next t) :
    Keeps s t ∧ (EstopLaw s → EstopLaw t) ∧ t.engine.commanded ≤ s.engine.commanded + s.start.rise := by
  unfold execControlTimerExpiry State.onTimer at h
  refine State.of_whenRunning (R := fun s t => Keeps s t ∧ (EstopLaw s → EstopLaw t)
    ∧ t.engine.commanded ≤ s.engine.commanded + s.start.rise) ⟨(Advances.refl s).toKeeps, id, by omega⟩ (fun _ => ?_) h
  dsimp only
  split
  · next due _ =>
    have htick := Advances.tick s due
    have hform := Keeps.formOutput (s.tick due) due
    have htake := Advances.takeCauses ((s.tick due).formOutput due) (s.tick due).spreadCauses
    exact ⟨(htick.toKeeps.trans hform).trans htake.toKeeps, htake.estop ∘ htick.estop,
      htake.commanded_le.trans (Engine.expiry_commanded_le _ _ _ _ _ _).2⟩
  · exact ⟨(Advances.refl s).toKeeps, id, by omega⟩

theorem execReleaseTimerExpiry_advances {s t : State} (h : execReleaseTimerExpiry s = .next t) : Advances s t := by
  refine Advances.onTimer (fun due hdue _ => Advances.ofDrive _ (fun hl => ?_) (fun hl => ?_)) h
  · obtain ⟨-, hresting, hrelease, hreleasing, hdelay, -, hmoving⟩ := hl
    have hbrake : s.drive.brake = .releasing := by simpa [hdue] using hrelease.symm
    have hmove := hreleasing hbrake
    refine ⟨fun e => absurd rfl e, fun e => ?_, rfl, fun e => BrakeState.noConfusion e, ?_, rfl,
      fun _ e => BrakeState.noConfusion e⟩
    · have := hresting e
      rw [State.tick_drive, hbrake] at this
      cases this
    · rw [State.tick_drive, hbrake] at hdelay
      have hmove' : s.ctrl.state.isMoving = true := hmove
      exact hdelay.trans (by simp [hmove'])
  · obtain ⟨hrange, hcommanded, hceiling, hstill, hmax, hcopy, hdirection, -⟩ := hl
    exact ⟨hrange, hcommanded, hceiling, hstill, hmax, hcopy, hdirection, le_rfl⟩

theorem execSetDelayExpiry_advances {s t : State} (h : execSetDelayExpiry s = .next t) : Advances s t := by
  refine Advances.onTimer (fun due hdue _ => Advances.ofDrive _ (fun hl => ?_) (fun hl => ?_)) h
  · obtain ⟨-, -, -, -, hdelay, -, -⟩ := hl
    obtain ⟨-, hstill⟩ : s.drive.brake = .released ∧ s.ctrl.state.isMoving = false := by simpa [hdue] using hdelay.symm
    exact Drive.setBrake_fits _ _ hstill
  · obtain ⟨hrange, hcommanded, hceiling, hstill, hmax, hcopy, hdirection, -⟩ := hl
    exact ⟨hrange, hcommanded, hceiling, hstill, hmax, hcopy, hdirection, Nat.zero_le _⟩

end Sys2Proof.Machine
end

section
/-! The laws under received frames, clears and the deadlines of the peer table and the request table. -/

namespace Sys2Proof.Machine

/-! ## Entries of the peer table -/

/-- Replacing an element by one that answers a test alike does not change the count. -/
theorem List.countP_set_eq {α : Type} (p : α → Bool) (l : List α) (i : Nat) (x : α)
    (h : ∀ y, l[i]? = some y → p x = p y) : (l.set i x).countP p = l.countP p := by
  induction l generalizing i with
  | nil => rfl
  | cons y l ih =>
    cases i with
    | zero => simp [List.countP_cons, h y rfl]
    | succ i => simp [List.countP_cons, ih i fun z hz => h z (by simpa using hz)]

/-- An entry replaced by one with its member mark keeps the number of members. -/
theorem PeerTable.memberCount_put {p : PeerTable} {n : Nat} {e e' : Entry} (hget : Table.get p.entries n = some e)
    (hmember : e'.member = e.member) :
    ({ p with entries := Table.put p.entries n e' } : PeerTable).memberCount = p.memberCount := by
  have hrange : 1 ≤ n ∧ n ≤ 24 := by
    by_contra hout
    simp [Table.get, hout] at hget
  unfold PeerTable.memberCount
  rw [Table.toList_put _ _ _ hrange]
  refine List.countP_set_eq _ _ _ _ fun y hy => ?_
  have : p.entries.toList[n - 1]? = some e := by
    rw [Table.get_of_range _ _ hrange] at hget
    cases hget
    simp
  rw [this] at hy
  cases hy
  exact hmember

theorem Table.mem_put {α : Type} {t : Vector α 24} {n : Nat} {x y : α} (h : y ∈ (Table.put t n x).toList) :
    y ∈ t.toList ∨ y = x := by
  by_cases hrange : 1 ≤ n ∧ n ≤ 24
  · rw [Table.toList_put _ _ _ hrange] at h
    exact List.mem_or_eq_of_mem_set h
  · rw [Table.put_out_of_range _ _ _ hrange] at h
    exact .inl h

/-- An entry written with the member mark it had, coherent where the one before was, and not the own entry. -/
theorem Advances.putEntry {s : State} {n : Nat} {e e' : Entry} (hget : Table.get s.peers.entries n = some e)
    (hmember : e'.member = e.member) (hown : OwnEntryLaw s → s.ctrl.state.isOperating = true ∧ n ≠ s.ownNumber)
    (hcoherent : e.coherent s.now → e'.coherent s.now) : Advances s (s.putEntry n e') := by
  refine Advances.ofPeers _ (fun hl => ?_) (fun hl => ?_) (fun hl y hy => ?_)
  · unfold MembersLaw at *
    dsimp only
    rw [PeerTable.memberCount_put hget hmember]
    exact hl
  · obtain ⟨hop, hne⟩ := hown hl
    refine ⟨fun e => absurd (hop.symm.trans e) (by simp), ?_⟩
    show (Table.get (Table.put s.peers.entries n e') s.ownNumber).getD Entry.empty = Entry.empty
    rw [Table.get_put_other _ _ _ _ hne.symm]
    exact hl.2
  · rcases Table.mem_put hy with hy | rfl
    · exact hl y hy
    · exact hcoherent (hl e (Table.get_mem _ _ _ hget))

theorem Advances.memberFault (s : State) (e : Entry) (c : Cause) : Advances s (s.memberFault e c) := by
  unfold State.memberFault
  split
  · exact Advances.takeCauses _ _
  · exact Advances.refl _

/-! ## Arrival and the own-number checks -/

/-- The line's part of the bus interface is no law's. -/
theorem Advances.arrive (s : State) : Advances s s.arrive := Advances.ofBus _ id

theorem Advances.holdClash (s : State) (due : Option Time) :
    Advances s { s with peers := { s.peers with clashHold := due } } := Advances.ofPeers _ id id id

theorem Advances.numberClash (s : State) : Advances s s.numberClash := by
  refine (Advances.holdClash s (some (s.now + Timing.clashHold))).trans ?_
  unfold State.numberClash
  dsimp only
  split
  · exact (Advances.takeCauses _ _).trans (Advances.settle _)
  · exact Advances.settle _

theorem Advances.ownChecks {s : State} (n u : Nat) {rest : State → State}
    (hrest : s.ctrl.state.isOperating = true → n ≠ s.ownNumber → Advances s (rest s)) :
    Advances s (s.ownChecks n u rest) := by
  unfold State.ownChecks
  split
  · exact Advances.refl _
  · next hop =>
    split
    · split
      · exact Advances.refl _
      · exact Advances.numberClash _
    · next hne => exact hrest (by simpa using hop) hne

/-! ## Reports -/

/-- What the state controller does in JOG as its flag clears is what settling would. -/
theorem State.clearFlag_refresh_eq {s : State} (hst : s.ctrl.state = .jog) :
    s.clearFlag.refresh = s.clearFlag.settleFrom .jog := by
  have hrest : s.clearFlag.chainStep = s.clearFlag := by rw [State.chainStep_jog (s := s.clearFlag) hst]; simp
  have hstate : s.clearFlag.ctrl.state = .jog := hst
  rw [State.settleFrom, State.chain_of_rest hrest, State.handOn_of_same hstate]

theorem Advances.clearFlagInJog {s : State} (hst : s.ctrl.state = .jog) : Advances s s.clearFlag.refresh := by
  have hresting : s.ctrl.state.isResting = false := by rw [hst]; rfl
  rw [State.clearFlag_refresh_eq hst, ← hst]
  refine Asked.advances (r := s.request) (Asked.ofMoving rfl rfl rfl rfl rfl rfl rfl rfl (.inr ⟨rfl, rfl, rfl⟩) hresting
    hresting (fun hl => hl.fits (StationState.isOperating_of_not_resting hresting)) id (fun hl => ?_)
    (fun _ hl => hl.2.2.2 hst)) hresting rfl rfl ⟨rfl, rfl⟩
  have hnone := hl.contact_none (by simp [hst]) (by rw [hst]; rfl)
  obtain ⟨hcontact, -⟩ := hl
  exact ⟨hcontact, fun e => absurd e (by simp [hst, StationState.isFormed, StationState.isLoaded]), fun _ => rfl,
    fun e => absurd e (by simp [hnone])⟩

theorem Advances.assemblyLoss (s : State) : Advances s s.assemblyLoss := by
  unfold State.assemblyLoss
  split
  · next hst =>
    have hresting : s.ctrl.state.isResting = false := by rw [hst]; rfl
    have := Advances.enterAssembling (s := s) (r := s.request) hresting
      (fun hl => hl.contact_none (by simp [hst]) (by rw [hst]; rfl))
      (fun hl => hl.fits (StationState.isOperating_of_not_resting hresting)) id rfl rfl ⟨rfl, rfl⟩
    rwa [hst] at this
  · next hst => exact Advances.clearFlagInJog hst
  · exact Advances.refl _

theorem Entry.coherent_afresh {e : Entry} {now : Time} (h : e.coherent now) : e.afresh.coherent now := by
  obtain ⟨hcontent, harrival, hfresh, hstopped, hstale, hpast, -, hrest⟩ := h
  exact ⟨hcontent, harrival, hfresh, hstopped, hstale, hpast, by simp [Entry.afresh], hrest⟩

/-- An accepted report leaves its entry FRESH and coherent. -/
theorem Entry.coherent_accept {e : Entry} {now : Time} (h : e.coherent now) (c : Content) (prompt : Bool) :
    (e.accept now c prompt).coherent now := by
  obtain ⟨-, -, -, -, -, hpast, hscheduled, hcontest, -⟩ := h
  refine ⟨rfl, rfl, fun _ => rfl, fun hne => absurd rfl hne, fun hst => by simp [Entry.accept] at hst, ?_, ?_, hcontest,
    fun _ => rfl⟩
  · rintro _ ⟨⟩
    exact le_rfl
  · intro t ht
    refine ⟨now, rfl, ?_⟩
    cases prompt with
    | true =>
      obtain ⟨a, ha, hle⟩ := hscheduled t ht
      exact hle.trans (hpast a ha)
    | false =>
      cases ht
      exact le_rfl

/-- A duplicate or a second early report marks a FRESH entry. -/
theorem Entry.coherent_contested {e : Entry} {now due : Time} (h : e.coherent now) (hfresh : e.status = .fresh) :
    ({ e with contested := true, contestDeadline := some due } : Entry).coherent now := by
  obtain ⟨hcontent, harrival, hfreshDeadline, hstopped, hstale, hpast, hscheduled, -, -⟩ := h
  exact ⟨hcontent, harrival, hfreshDeadline, hstopped, hstale, hpast, hscheduled, rfl, fun _ => hfresh⟩

/-- An early report comes at a FRESH entry: a STALE one is three periods old. -/
theorem Entry.fresh_of_isEarly {e : Entry} {now : Time} (h : e.coherent now) (hearly : e.isEarly now = true) :
    e.status = .fresh := by
  obtain ⟨hcontent, -, -, -, hstale, -, hscheduled, -⟩ := h
  unfold Entry.isEarly at hearly
  split at hearly
  · next last c hlast hc =>
    obtain ⟨a, ha, hle⟩ := hscheduled last hlast
    cases hst : e.status with
    | fresh => rfl
    | empty => simp [hc, hst] at hcontent
    | stale =>
      have hold := hstale hst a ha c hc
      have hnow : now < last + c.period.interval / 4 := by simpa using hearly
      unfold Time at *
      omega
  · cases hearly

theorem Advances.acceptReport {s : State} {n : Nat} {e : Entry} (c : Content) (prompt : Bool)
    (hget : Table.get s.peers.entries n = some e) (hop : s.ctrl.state.isOperating = true) (hne : n ≠ s.ownNumber) :
    Advances s (s.acceptReport n e c prompt) := by
  have hput (e' : Entry) (hmember : e'.member = e.member) (hcoherent : e.coherent s.now → e'.coherent s.now) :
      Advances s (s.putEntry n (e'.accept s.now c prompt)) :=
    Advances.putEntry hget hmember (fun _ => ⟨hop, hne⟩) fun hl => Entry.coherent_accept (hcoherent hl) c prompt
  have hmember : (if e.takesUnit c.unitNumber then e.afresh else e).member = e.member := by split <;> rfl
  have hcoherent (hl : e.coherent s.now) : (if e.takesUnit c.unitNumber then e.afresh else e).coherent s.now := by
    split
    · exact Entry.coherent_afresh hl
    · exact hl
  have htaken := (hput _ hmember hcoherent).trans (Advances.takeCauses _ (s.reportCauses e c) c.origin)
  unfold State.acceptReport
  dsimp only
  split
  · exact htaken.trans ((Advances.assemblyLoss _).trans (Advances.settle _))
  · exact htaken.trans (Advances.settle _)

theorem Advances.duplicateReport {s : State} {n : Nat} {e : Entry} (hget : Table.get s.peers.entries n = some e)
    (hop : s.ctrl.state.isOperating = true) (hne : n ≠ s.ownNumber) (hfresh : e.status = .fresh) :
    Advances s (s.duplicateReport n e) := by
  have hput : Advances s (s.putEntry n
      { e with contested := true, contestDeadline := some (s.now + Timing.contest) }) :=
    Advances.putEntry hget rfl (fun _ => ⟨hop, hne⟩) fun hl => Entry.coherent_contested hl hfresh
  exact hput.trans ((Advances.memberFault _ _ _).trans (Advances.settle _))

theorem Advances.earlyReport {s : State} {n : Nat} {e : Entry} (hget : Table.get s.peers.entries n = some e)
    (hop : s.ctrl.state.isOperating = true) (hne : n ≠ s.ownNumber)
    (hfresh : e.coherent s.now → e.status = .fresh) : Advances s (s.earlyReport n e) := by
  unfold State.earlyReport
  split
  · have hput : Advances s (s.putEntry n { e with faulty := true }) :=
      Advances.putEntry hget rfl (fun _ => ⟨hop, hne⟩) fun hl => by
        have hst := hfresh hl
        obtain ⟨hcontent, harrival, hdeadline, hstopped, hstale, hpast, hscheduled, hcontest, -⟩ := hl
        exact ⟨hcontent, harrival, hdeadline, hstopped, hstale, hpast, hscheduled, hcontest, fun _ => hst⟩
    exact hput.trans ((Advances.memberFault _ _ _).trans (Advances.settle _))
  · have hput : Advances s (s.putEntry n { e with early := true }) :=
      Advances.putEntry hget rfl (fun _ => ⟨hop, hne⟩) id
    exact hput.trans (Advances.settle _)

theorem Advances.reportAtEntry {s : State} {n : Nat} {e : Entry} (c : Content) (prompt : Bool)
    (hget : Table.get s.peers.entries n = some e) (hop : s.ctrl.state.isOperating = true) (hne : n ≠ s.ownNumber) :
    Advances s (s.reportAtEntry n e c prompt) := by
  unfold State.reportAtEntry
  split
  · next hdup => exact Advances.duplicateReport hget hop hne hdup.1
  · split
    · exact Advances.refl _
    · extract_lets taken
      split
      · exact Advances.acceptReport c prompt hget hop hne
      · split
        · next hearly =>
          refine Advances.earlyReport hget hop hne fun hl => ?_
          unfold taken at hearly
          split at hearly
          · simp [Entry.isEarly, Entry.afresh] at hearly
          · exact Entry.fresh_of_isEarly hl hearly
        · exact Advances.acceptReport c prompt hget hop hne

theorem Advances.examineReport (s : State) (r : ReportFields) : Advances s (s.examineReport r) := by
  unfold State.examineReport
  split
  · refine Advances.ownChecks _ _ fun hop hne => ?_
    split
    · next e hget => exact Advances.reportAtEntry _ _ hget hop hne
    · exact Advances.refl _
  · exact Advances.refl _

theorem execReportFrame_advances {m : Time} {chars : List Byte} {s t : State} (h : execReportFrame m chars s = .next t) :
    Advances s t := by
  refine Advances.onEvent (fun _ => ?_) h
  split
  · exact (Advances.arrive _).trans (Advances.examineReport _ _)
  · exact Advances.arrive _

/-! ## Requests -/

/-- A slot written and the command formed again: a request fills its slot with the flag set alone. -/
theorem Advances.fillSlot {s : State} {n : Nat} {x : Option Slot} (hx : x = none ∨ s.ctrl.assembled = true) :
    Advances s (s.putSlot n x).settle := by
  refine Transit.advances (x := s.putSlot n x) { Transit.refl s with request := fun hl => ?_ } id
  obtain ⟨hclear, hrest⟩ := hl
  refine ⟨fun ha => ⟨fun y hy => ?_, (hclear ha).2⟩, hrest⟩
  rcases Table.mem_put hy with hy | rfl
  · exact (hclear ha).1 y hy
  · exact hx.resolve_right fun hset => absurd (hset.symm.trans ha) (by simp)

theorem Advances.takeRequest (s : State) (n u : Nat) (k : RequestKind) : Advances s (s.takeRequest n u k) := by
  unfold State.takeRequest
  split
  · split
    · next hacc =>
      refine Advances.fillSlot (.inr ?_)
      simp only [State.acceptsRequest, Bool.and_eq_true] at hacc
      exact hacc.1.1.1
    · exact Advances.refl _
  · exact Advances.refl _

/-! ## Clears -/

theorem State.mem_remainingCauses {s : State} {c : Cause} :
    c ∈ s.remainingCauses ↔ c ∈ s.halt.causes ∧ s.conditionPresent c = true := by
  simp [State.remainingCauses]

theorem Advances.failClear {s : State} {c : Cause} {rest : List Cause} (hst : s.ctrl.state = .halted)
    (hrest : s.remainingCauses = c :: rest) : Advances s (s.failClear c (c :: rest)) :=
  { Advances.refl s with
    halt := fun ⟨_, _, _, hsorted⟩ => by
      refine ⟨by simp [State.failClear, hst], ?_, by simp [State.failClear, hst], ?_⟩
      · rintro _ ⟨⟩
        exact List.mem_cons_self
      · show (c :: rest).Pairwise _
        rw [← hrest]
        exact hsorted.filter _
    estop := fun ⟨hrests, hheld, htimer⟩ => by
      refine ⟨hrests, fun hc hh => ?_, htimer⟩
      show Cause.estop ∈ c :: rest
      rw [← hrest]
      exact State.mem_remainingCauses.2 ⟨hheld hc hh, hc⟩ }

/-- The halt unit after a successful clear. -/
def State.cleared (s : State) : State :=
  { s with halt := { s.halt with causes := [], first := none, grace := some (s.now + Timing.clearGrace) } }

theorem State.returnFromHalt_asked {s : State} (hst : s.ctrl.state = .halted) :
    Asked s s.cleared.returnFromHalt s.request := by
  have hfits : RequestLaw s → s.request.Fits s.ctrl.assembled true := fun hl => hl.fits (by rw [hst]; rfl)
  have hop : s.ctrl.state.isOperating = true := by rw [hst]; rfl
  have hassembling : s.ctrl.contact = none → Asked s s.cleared.enterAssembling s.request := fun hnone =>
    { now_eq := rfl, pending_eq := rfl, start_eq := rfl, meas_eq := rfl, engine_eq := rfl, drive_eq := rfl
      bus_eq := rfl, flag := .inr ⟨rfl, rfl, rfl⟩, operating := hop, operating' := rfl, requestFits := hfits
      filter := id, halt := fun _ => haltLaw_of_clear (by simp) rfl rfl
      context := fun _ => ⟨fun _ => by simp [State.cleared, hnone, StationState.hasContact], fun e => by
        simp [StationState.isFormed, StationState.isLoaded] at e, fun _ => rfl, fun e => by
        simp [State.cleared, hnone] at e⟩
      holdsJog := fun e => by simp at e }
  unfold State.returnFromHalt State.enterReady
  split
  · next hsome =>
    have hcontact : s.ctrl.contact.isSome = true := hsome
    exact
      { now_eq := rfl, pending_eq := rfl, start_eq := rfl, meas_eq := rfl, engine_eq := rfl, drive_eq := rfl
        bus_eq := rfl, flag := .inl ⟨rfl, rfl, rfl⟩, operating := hop, operating' := rfl, requestFits := hfits
        filter := id, halt := fun _ => haltLaw_of_clear (by simp) rfl rfl
        context := fun ⟨_, _, _, hflag⟩ => ⟨fun _ => hcontact, fun _ => hflag hcontact, fun e => by
          simp [StationState.isUnformed] at e, fun _ => hflag hcontact⟩
        holdsJog := fun e => by simp at e }
  · next hno =>
    have hnone : s.ctrl.contact = none := Option.not_isSome_iff_eq_none.1 hno
    split
    · next hset =>
      split
      · exact
          { now_eq := rfl, pending_eq := rfl, start_eq := rfl, meas_eq := rfl, engine_eq := rfl, drive_eq := rfl
            bus_eq := rfl, flag := .inl ⟨rfl, rfl, rfl⟩, operating := hop, operating' := rfl, requestFits := hfits
            filter := id, halt := fun _ => haltLaw_of_clear (by simp) rfl rfl
            context := fun _ => ⟨fun _ => by simp [State.cleared, hnone, StationState.hasContact], fun _ => hset, fun e => by
              simp [StationState.isUnformed] at e, fun _ => hset⟩
            holdsJog := fun e => by simp at e }
      · exact hassembling hnone
    · exact hassembling hnone

theorem Advances.clearAttempt (s : State) : Advances s s.clearAttempt := by
  unfold State.clearAttempt
  split
  · next hst =>
    split
    · next hrest => exact Advances.failClear hst hrest
    · next hrest =>
      have hasked := State.returnFromHalt_asked hst
      have := hasked.transit.advances (hasked.estop rfl rfl ⟨rfl, rfl⟩ fun hl => by
        cases hc : s.request.estopCondition with
        | false => rfl
        | true =>
          have : Cause.estop ∈ s.remainingCauses := State.mem_remainingCauses.2 ⟨hl.2.1 hc hst, hc⟩
          simp [hrest] at this)
      rwa [hst] at this
  · exact Advances.refl _

theorem Advances.takeClear (s : State) (n u : Nat) : Advances s (s.takeClear n u) := by
  unfold State.takeClear
  split
  · split
    · exact Advances.clearAttempt s
    · exact Advances.refl _
  · exact Advances.refl _

/-- A request frame of any code: its arrival, the own-number checks, and what the request unit does. -/
theorem Advances.onRequest {m : Time} {chars : List Byte} {isCode : Byte → Bool} {rest : Nat → Nat → State → State}
    {s t : State} (hrest : ∀ n u x, Advances x (rest n u x))
    (h : s.onEvent m (fun s => s.onRequest chars isCode rest) = .next t) : Advances s t := by
  refine Advances.onEvent (fun _ => ?_) h
  unfold State.onRequest
  split
  · split
    · exact (Advances.arrive _).trans (Advances.ownChecks _ _ fun _ _ => hrest _ _ _)
    · exact Advances.arrive _
  · exact Advances.arrive _

/-! ## Deadlines -/

theorem execSlotWindowExpiry_advances {n : Nat} {s t : State} (h : execSlotWindowExpiry n s = .next t) :
    Advances s t := Advances.onTimer (fun _ _ _ => Advances.fillSlot (.inl rfl)) h

/-- An entry that is not EMPTY is another station's, in an operating state. -/
theorem OwnEntryLaw.of_not_empty {s : State} {n : Nat} {e : Entry} (h : OwnEntryLaw s)
    (hget : Table.get s.peers.entries n = some e) (hne : e ≠ Entry.empty) :
    s.ctrl.state.isOperating = true ∧ n ≠ s.ownNumber := by
  obtain ⟨hall, hown⟩ := h
  constructor
  · cases hop : s.ctrl.state.isOperating with
    | true => rfl
    | false => exact absurd (hall hop e (Table.get_mem _ _ _ hget)) hne
  · rintro rfl
    rw [hget] at hown
    exact hne hown

/-- An entry whose stale deadline passes was FRESH, and is coherent as a STALE one. -/
theorem Entry.coherent_goStale {e : Entry} {now due : Time} (h : e.coherent now) (hdue : e.staleDeadline = some due)
    (hnow : due ≤ now) : e.goStale.coherent now := by
  obtain ⟨hcontent, harrival, hfresh, hstopped, -, hpast, hscheduled, -, -⟩ := h
  have hst : e.status = .fresh := by
    by_contra hne
    simp [hstopped hne] at hdue
  refine ⟨hcontent.trans (by rw [hst]; rfl), harrival.trans (by rw [hst]; rfl),
    fun e => EntryStatus.noConfusion e, fun _ => rfl, fun _ a ha c hc => ?_, hpast, hscheduled, rfl,
    fun e => by simp [Entry.goStale] at e⟩
  have hdeadline := (hfresh hst).symm.trans hdue
  simp only [Entry.goStale, Option.mem_def] at ha hc
  rw [ha, hc] at hdeadline
  cases hdeadline
  exact hnow

theorem execStaleDeadlineExpiry_advances {n : Nat} {s t : State} (h : execStaleDeadlineExpiry n s = .next t) :
    Advances s t := by
  refine Advances.onTimer (fun due hdue _ => ?_) h
  have hdue' : (s.tick due).staleDeadlineOf n = some due := hdue
  have hnow : due ≤ (s.tick due).now := Nat.le_max_right _ _
  generalize s.tick due = s at hdue' hnow ⊢
  split
  · next e hget =>
    rw [State.staleDeadlineOf, hget, Option.bind_some] at hdue'
    have hput : Advances s (s.putEntry n e.goStale) :=
      Advances.putEntry hget rfl (fun hl => hl.of_not_empty hget fun heq => by rw [heq] at hdue'; cases hdue')
        fun hl => Entry.coherent_goStale hl hdue' hnow
    exact hput.trans ((Advances.memberFault _ _ _).trans (Advances.settle _))
  · exact Advances.refl _

/-- The end of a contest leaves the entry coherent. -/
theorem Entry.coherent_uncontested {e : Entry} {now due : Time} (h : e.coherent now)
    (hdue : e.contestDeadline = some due) :
    ({ e with contested := false, contestDeadline := none } : Entry).coherent now := by
  obtain ⟨hcontent, harrival, hfresh, hstopped, hstale, hpast, hscheduled, hcontest, hmarks⟩ := h
  have hcontested : e.contested = true := by rw [← hcontest, hdue]; rfl
  exact ⟨hcontent, harrival, hfresh, hstopped, hstale, hpast, hscheduled, rfl, fun _ => hmarks (.inr hcontested)⟩

theorem execContestDeadlineExpiry_advances {n : Nat} {s t : State} (h : execContestDeadlineExpiry n s = .next t) :
    Advances s t := by
  refine Advances.onTimer (fun due hdue _ => ?_) h
  have hdue' : (s.tick due).contestDeadlineOf n = some due := hdue
  generalize s.tick due = s at hdue' ⊢
  split
  · next e hget =>
    rw [State.contestDeadlineOf, hget, Option.bind_some] at hdue'
    have hput : Advances s (s.putEntry n { e with contested := false, contestDeadline := none }) :=
      Advances.putEntry hget rfl (fun hl => hl.of_not_empty hget fun heq => by rw [heq] at hdue'; cases hdue')
        fun hl => Entry.coherent_uncontested hl hdue'
    exact hput.trans (Advances.settle _)
  · exact Advances.refl _

theorem execClashHoldExpiry_advances {s t : State} (h : execClashHoldExpiry s = .next t) : Advances s t :=
  Advances.onTimer (fun _ _ _ => (Advances.holdClash _ none).trans (Advances.settle _)) h

theorem execClearGraceEnd_advances {s t : State} (h : execClearGraceEnd s = .next t) : Advances s t :=
  Advances.onTimer (fun _ _ _ => Advances.ofGrace none) h

/-- HOLDING and PARKED: the two states a move between which keeps the context. -/
theorem Advances.moveSeated {s : State} {st st' : StationState} (hst : s.ctrl.state = st)
    (h : st = .holding ∧ st' = .parked ∨ st = .parked ∧ st' = .holding) :
    Advances s ((s.withState st').settleFrom st) := by
  have hformed : st.isFormed = true ∧ st.hasContact = true ∧ st.isResting = false ∧ st ≠ .halted := by
    rcases h with ⟨rfl, -⟩ | ⟨rfl, -⟩ <;> simp [StationState.isFormed, StationState.isLoaded, StationState.hasContact,
      StationState.isResting]
  have hformed' : st'.isUnformed = false ∧ st'.hasContact = true ∧ st'.isResting = false ∧ st' ≠ .jog := by
    rcases h with ⟨-, rfl⟩ | ⟨-, rfl⟩ <;> simp [StationState.isUnformed, StationState.hasContact, StationState.isResting]
  obtain ⟨hset, hcontact, hresting, hhalted⟩ := hformed
  obtain ⟨hset', hcontact', hresting', hjog⟩ := hformed'
  subst hst
  refine Advances.moveTo st' s.ctrl.contact hresting hresting' hjog fun hl => ?_
  obtain ⟨hrecord, hformed, -, hflag⟩ := hl
  exact ⟨fun _ => ((hrecord hhalted).trans hcontact).trans hcontact'.symm, fun _ => hformed hset,
    fun e => absurd (hset'.symm.trans e) (by simp), hflag⟩

theorem execParkTimerExpiry_advances {s t : State} (h : execParkTimerExpiry s = .next t) : Advances s t := by
  refine Advances.onTimer (fun due _ _ => ?_) h
  split
  · next hst => exact Advances.moveSeated hst (.inl ⟨rfl, rfl⟩)
  · exact Advances.refl _

end Sys2Proof.Machine
end

section
/-! The laws under the commands of the pendant and the e-stop channels. -/

namespace Sys2Proof.Machine

/-! ## Keys -/

theorem RequestUnit.key_setKey (r : RequestUnit) (k : KeyInput) (key key' : Key) :
    (r.setKey k key).key key' = if key' = key then k else r.key key' := by
  cases key <;> cases key' <;> rfl

theorem otherKey_otherKey (key : Key) : otherKey (otherKey key) = key := by cases key <;> rfl

theorem holdingKey_ne_reset (d : Direction) : holdingKey d ≠ .reset := by cases d <;> simp [holdingKey]

theorem otherKey_ne {key : Key} (h : key ≠ .reset) : otherKey key ≠ key := by cases key <;> simp_all [otherKey]

theorem holdingKey_jogDirectionOf {key : Key} (h : key ≠ .reset) : holdingKey (jogDirectionOf key) = key := by
  cases key <;> simp_all [holdingKey, jogDirectionOf]

/-- The keys of a request unit, as the request law lists them. -/
theorem RequestUnit.forall_keys {r : RequestUnit} {p : KeyInput → Prop} :
    (∀ k ∈ [r.raiseKey, r.lowerKey, r.resetKey], p k) ↔ ∀ key, p (r.key key) := by
  refine ⟨fun h key => ?_, fun h => by simpa using ⟨h .raise, h .lower, h .reset⟩⟩
  cases key <;> exact h _ (by simp [RequestUnit.key])

theorem RequestUnit.setKey_same (r : RequestUnit) (k : KeyInput) (key : Key) :
    (r.setKey k key).slots = r.slots ∧ (r.setKey k key).sequence = r.sequence ∧ (r.setKey k key).mode = r.mode
      ∧ (r.setKey k key).pendantPresent = r.pendantPresent
      ∧ (r.setKey k key).estopCondition = r.estopCondition
      ∧ (r.setKey k key).discrepancySince = r.discrepancySince
      ∧ (r.setKey k key).estopAOpen = r.estopAOpen ∧ (r.setKey k key).estopBOpen = r.estopBOpen := by
  cases key <;> exact ⟨rfl, rfl, rfl, rfl, rfl, rfl, rfl, rfl⟩

/-! ## Writes of the pendant's inputs -/

/-- The request unit `r` is that of `s` with inputs of the pendant written, or its sequence ended. -/
structure PendantWrite (s : State) (r : RequestUnit) : Prop where
  slots_eq : r.slots = s.request.slots
  condition : r.estopCondition = s.request.estopCondition
  since : r.discrepancySince = s.request.discrepancySince
  channels : r.estopAOpen = s.request.estopAOpen ∧ r.estopBOpen = s.request.estopBOpen
  sequence : r.sequence = s.request.sequence ∨ r.sequence = none
  fits : RequestLaw s → r.Fits s.ctrl.assembled s.ctrl.state.isOperating
  filter : FilterLaw s → FilterLaw { s with request := r }

theorem PendantWrite.refl (s : State) : PendantWrite s s.request :=
  ⟨rfl, rfl, rfl, ⟨rfl, rfl⟩, .inl rfl, fun hl => ((requestLaw_iff s).1 hl).1, id⟩

/-- A sequence ended with the write. -/
theorem PendantWrite.endSequence {s : State} {r : RequestUnit} (h : PendantWrite s r) :
    PendantWrite s { r with sequence := none } :=
  ⟨h.slots_eq, h.condition, h.since, h.channels, .inr rfl,
    fun hl =>
      have ⟨hclear, hkeys, _⟩ := h.fits hl
      ⟨fun ha => ⟨(hclear ha).1, rfl⟩, hkeys, fun _ => rfl⟩, h.filter⟩

/-- A key's input written: free to read PRESSED where it is not blocked and the pendant is present. -/
theorem PendantWrite.setKey {s : State} (key : Key) (k : KeyInput) (hrun : s.start.resetHeld = false)
    (hfrom : k.filterFrom = some s.now)
    (hpressed : RequestLaw s → k.blocked = true ∨ s.request.pendantPresent = false → k.pressed = false) :
    PendantWrite s (s.request.setKey k key) := by
  obtain ⟨hslots, hsequence, hmode, hpendant, hcondition, hsince, hchannels⟩ := s.request.setKey_same k key
  refine ⟨hslots, hcondition, hsince, hchannels, .inl hsequence, fun hl => ?_, fun hl => ?_⟩
  · obtain ⟨hclear, hkeys, hsilent⟩ := ((requestLaw_iff s).1 hl).1
    refine ⟨by rwa [hslots, hsequence], ?_, by rwa [hmode, hsequence]⟩
    rw [RequestUnit.forall_keys] at hkeys ⊢
    intro key'
    rw [hpendant, RequestUnit.key_setKey]
    split
    · exact hpressed hl
    · exact hkeys key'
  · have hk := filterLaw_write hrun hfrom
    unfold FilterLaw at *
    cases key <;> simp only [List.forall_mem_cons, RequestUnit.setKey] at hl ⊢
    · obtain ⟨h1, h2, h3, h4, -, h6⟩ := hl
      exact ⟨h1, h2, h3, h4, hk, h6⟩
    · obtain ⟨h1, h2, h3, h4, h5, -, h7⟩ := hl
      exact ⟨h1, h2, h3, h4, h5, hk, h7⟩
    · obtain ⟨h1, h2, h3, h4, h5, h6, -, h8⟩ := hl
      exact ⟨h1, h2, h3, h4, h5, h6, hk, h8⟩

/-- Such a write in a state in which it leaves a jog held. -/
theorem PendantWrite.advances {s : State} {r : RequestUnit} (h : PendantWrite s r)
    (hjog : s.ctrl.state = .jog → RequestLaw s → r.HoldsJog s.ctrl.jogDirection) : Advances s { s with request := r } :=
  Advances.ofRequest r h.slots_eq (fun hl => (requestLaw_iff _).2 ⟨h.fits hl, fun hst => hjog hst hl⟩)
    (fun ⟨hrests, hheld, htimer⟩ => by
      obtain ⟨ha, hb⟩ := h.channels
      unfold EstopLaw
      dsimp only
      rw [h.condition, h.since, ha, hb]
      exact ⟨hrests, hheld, htimer⟩)
    h.filter fun hnone => h.sequence.elim (fun he => he.trans hnone) id

/-- Such a write that ends a jog, with the leaving of JOG. -/
theorem PendantWrite.leaveJog {s : State} {r : RequestUnit} (h : PendantWrite s r) (hst : s.ctrl.state = .jog) :
    Advances s ({ s with request := r } : State).leaveJog := by
  have hresting : s.ctrl.state.isResting = false := by rw [hst]; rfl
  have hfits : RequestLaw s → r.Fits s.ctrl.assembled true := fun hl => by
    have := h.fits hl
    rwa [StationState.isOperating_of_not_resting hresting] at this
  have hcontact (hl : ContextLaw s) : s.ctrl.contact = none := hl.contact_none (by simp [hst]) (by rw [hst]; rfl)
  unfold State.leaveJog
  split
  · next hset =>
    have := Advances.enterReady (r := r) (c := s.ctrl.contact) hresting hcontact (fun _ => hset) hfits h.filter h.condition
      h.since h.channels
    rwa [hst] at this
  · have := Advances.enterAssembling (r := r) hresting hcontact hfits h.filter h.condition h.since h.channels
    rwa [hst] at this

theorem Advances.leaveJog {s : State} (hst : s.ctrl.state = .jog) : Advances s s.leaveJog :=
  (PendantWrite.refl s).leaveJog hst

theorem Advances.endSequence (s : State) : Advances s s.endSequence :=
  (PendantWrite.refl s).endSequence.advances fun hst hl => ((requestLaw_iff s).1 hl).2 hst

/-! ## Requests made -/

/-- A request made under a sequence that runs after it: only with the flag set, in GROUP mode, in an operating part. -/
theorem Advances.makeRequest {s : State} {k : RequestKind} {q : Sequence}
    (hset : RequestLaw s → s.ctrl.assembled = true)
    (hrun : RequestLaw s → s.ctrl.state.isOperating = true ∧ s.request.mode ≠ .localMode)
    (hspeaks : s.SilentLaw → s.ctrl.state ≠ .start ∧ s.start.stationNumber ≠ none) :
    Advances s (State.settle
      { s with
        bus := s.bus.requestMotion s.now k
        request := { s.request with
          slots := Table.put s.request.slots s.ownNumber (some { kind := k, stamp := s.now }), sequence := some q } }) := by
  refine Transit.advances (s := s) { Transit.refl s with request := fun hl => ?request, bus := fun hl => ?bus } id
  case request =>
    have hset' := hset hl
    obtain ⟨hop, hmode⟩ := hrun hl
    obtain ⟨-, hkeys, -, hjog⟩ := hl
    exact ⟨fun hc => absurd (hset'.symm.trans hc) (by simp), hkeys,
      fun hc => absurd hc (by simp [hop, hmode]), hjog⟩
  case bus =>
    obtain ⟨hsound, hsilent⟩ := (busLaw_iff s).1 hl
    obtain ⟨hst, hnumber⟩ := hspeaks hsilent
    exact (busLaw_iff _).2 ⟨hsound.requestMotion _ _, fun hc => (hc.elim hst hnumber).elim⟩

theorem Advances.requestPress {s : State} (key : Key) (k : RequestKind) (hop : s.ctrl.state.isOperating = true) :
    Advances s (s.requestPress key k) := by
  have hbegin (x : State) (hopx : x.ctrl.state.isOperating = true) :
      Advances x (if x.beginsSequence key then (x.beginSequence k).settle else x) := by
    split
    · next hb =>
      simp only [State.beginsSequence, Bool.and_eq_true, beq_iff_eq] at hb
      obtain ⟨⟨hmode, -⟩, hset⟩ := hb
      exact Advances.makeRequest (fun _ => hset) (fun _ => ⟨hopx, by simp [hmode]⟩) fun hl => hl.speaks hopx
    · exact Advances.refl x
  unfold State.requestPress
  dsimp only
  split
  · exact (Advances.endSequence s).trans (hbegin _ hop)
  · exact hbegin s hop

/-! ## Presses -/

theorem Advances.wakeByKey (s : State) : Advances s s.wakeByKey := by
  unfold State.wakeByKey
  split
  · next hst => exact Advances.moveSeated hst (.inr ⟨rfl, rfl⟩)
  · exact Advances.refl s

theorem Advances.restartPark (s : State) : Advances s s.restartPark := by
  unfold State.restartPark
  split
  · exact { Advances.refl s with lampsAndPark := fun ⟨hready, hfault, hpark⟩ => ⟨hready, hfault, (Option.isSome_map ..).trans hpark⟩ }
  · exact Advances.refl s

theorem Advances.judgeJog {s : State} {key : Key} (hkey : key ≠ .reset) (hpressed : (s.request.key key).pressed = true) :
    Advances s (s.judgeJog key) := by
  unfold State.judgeJog
  split
  · next hmode =>
    split
    · exact Advances.ofRequest _ rfl id id id id
    · split
      · next hjog =>
        obtain ⟨hst, hother⟩ := hjog
        have hresting : s.ctrl.state.isResting = false := by rcases hst with h | h <;> rw [h] <;> rfl
        refine Asked.advances (r := s.request) (Asked.ofMoving rfl rfl rfl rfl rfl rfl rfl rfl (.inl ⟨rfl, rfl, rfl⟩)
          hresting rfl (fun hl => hl.fits (StationState.isOperating_of_not_resting hresting)) id (fun hl => ?_)
          (fun _ _ => ?_)) hresting rfl rfl ⟨rfl, rfl⟩
        · have hcontact := hl.contact_none (by rcases hst with h | h <;> simp [h])
            (by rcases hst with h | h <;> rw [h] <;> rfl)
          obtain ⟨-, -, -, hflag⟩ := hl
          exact ⟨fun _ => by simp [hcontact, StationState.hasContact], fun e => by
            simp [StationState.isFormed, StationState.isLoaded] at e, fun e => by
            simp [StationState.isUnformed] at e, hflag⟩
        · show s.request.HoldsJog (jogDirectionOf key)
          rw [RequestUnit.HoldsJog, holdingKey_jogDirectionOf hkey]
          exact ⟨hmode, hpressed, hother⟩
      · exact Advances.refl s
  · exact Advances.refl s

/-- The keys stand through the transitions. -/
theorem State.settleFrom_key (x : State) (old : StationState) (key : Key) :
    (x.settleFrom old).request.key key = x.request.key key := by
  rw [x.settleFrom_request old]
  rcases x.rested_request_cases with h | ⟨-, h⟩ <;> rw [h]
  cases key <;> rfl

theorem State.wakeByKey_key (s : State) (key : Key) : s.wakeByKey.request.key key = s.request.key key := by
  unfold State.wakeByKey
  split
  · exact State.settleFrom_key _ _ _
  · rfl

theorem State.restartPark_request (s : State) : s.restartPark.request = s.request := by
  unfold State.restartPark
  split <;> rfl

theorem State.requestPress_key (s : State) (key : Key) (k : RequestKind) (key' : Key) :
    (s.requestPress key k).request.key key' = s.request.key key' := by
  have hend : ∀ x : State, x.endSequence.request.key key' = x.request.key key' := fun x => by cases key' <;> rfl
  have hbegin : ∀ x : State, (x.beginSequence k).request.key key' = x.request.key key' := fun x => by cases key' <;> rfl
  unfold State.requestPress
  dsimp only
  split <;> split
  · exact (State.settleFrom_key _ _ _).trans ((hbegin _).trans (hend s))
  · exact hend s
  · exact (State.settleFrom_key _ _ _).trans (hbegin s)
  · rfl

theorem Advances.motionPress {s : State} {key : Key} (hkey : key ≠ .reset)
    (hpressed : (s.request.key key).pressed = true) : Advances s (s.motionPress key) := by
  unfold State.motionPress
  split
  · next hst =>
    split
    · exact Advances.refl s
    · exact Advances.leaveJog hst
  · refine (Advances.wakeByKey s).trans ((Advances.restartPark _).trans (Advances.judgeJog hkey ?_))
    rw [State.restartPark_request, State.wakeByKey_key, hpressed]

theorem Advances.resetPress {s : State} (hop : s.ctrl.state.isOperating = true) : Advances s s.resetPress := by
  have hbus : Advances s { s with bus := s.bus.requestClear s.now } := Advances.ofBus _ fun hl => by
    obtain ⟨hsound, hsilent⟩ := (busLaw_iff s).1 hl
    obtain ⟨hst, hnumber⟩ := hsilent.speaks hop
    exact (busLaw_iff _).2 ⟨hsound.requestClear _, fun hc => (hc.elim hst hnumber).elim⟩
  exact hbus.trans ((Advances.clearAttempt _).trans ((Advances.wakeByKey _).trans (Advances.restartPark _)))

/-- A press of the other key in JOG under the request law: the sequence is none, in LOCAL mode, and the jog ends. -/
theorem State.requestPress_of_local {s : State} {key : Key} (k : RequestKind) (hkey : key ≠ .reset)
    (hmode : s.request.mode = .localMode) (hnone : s.request.sequence = none) : s.requestPress key k = s := by
  have hkind : s.request.sequenceKind ≠ keyKind (otherKey key) := by
    cases key <;> simp_all [RequestUnit.sequenceKind, keyKind, otherKey]
  simp [State.requestPress, hkind, State.beginsSequence, hmode]

theorem Advances.press {s : State} {key : Key} (hrun : s.start.resetHeld = false)
    (hblocked : (s.request.key key).blocked = false) (hpresent : s.request.pendantPresent = true) :
    Advances s ((s.setPressed key true).press key) := by
  have hwrite : PendantWrite s (s.setPressed key true).request :=
    PendantWrite.setKey key _ hrun rfl fun _ => by simp [hblocked, hpresent]
  have hpressed : ((s.setPressed key true).request.key key).pressed = true := by
    simp [State.setPressed, RequestUnit.key_setKey]
  have hother (key' : Key) (hne : key' ≠ key) : (s.setPressed key true).request.key key' = s.request.key key' := by
    simp [State.setPressed, RequestUnit.key_setKey, hne]
  have hmode : (s.setPressed key true).request.mode = s.request.mode := (s.request.setKey_same _ key).2.2.1
  have hsequence : (s.setPressed key true).request.sequence = s.request.sequence := (s.request.setKey_same _ key).2.1
  have hsettled (hx : Advances s (s.setPressed key true)) : Advances s ((s.setPressed key true).press key) := by
    unfold State.press
    split
    · next hop =>
      cases hk : keyKind key with
      | none => exact hx.trans (Advances.resetPress hop)
      | some k =>
        have hkey : key ≠ .reset := by rintro rfl; cases hk
        exact hx.trans ((Advances.requestPress key k hop).trans
          (Advances.motionPress hkey (by rw [State.requestPress_key, hpressed])))
    · exact hx
  by_cases hends : s.ctrl.state = .jog ∧ RequestLaw s ∧ key = otherKey (holdingKey s.ctrl.jogDirection)
  · obtain ⟨hst, hlaw, rfl⟩ := hends
    have hkey : otherKey (holdingKey s.ctrl.jogDirection) ≠ .reset := by
      cases s.ctrl.jogDirection <;> simp [holdingKey, otherKey]
    obtain ⟨k, hk⟩ : ∃ k, keyKind (otherKey (holdingKey s.ctrl.jogDirection)) = some k := by
      cases s.ctrl.jogDirection <;> exact ⟨_, rfl⟩
    obtain ⟨-, -, hsilent, hjog⟩ := hlaw
    have hlocal := (hjog hst).1
    have hpress : (s.setPressed (otherKey (holdingKey s.ctrl.jogDirection)) true).press
        (otherKey (holdingKey s.ctrl.jogDirection))
        = (s.setPressed (otherKey (holdingKey s.ctrl.jogDirection)) true).leaveJog := by
      have hst' : (s.setPressed (otherKey (holdingKey s.ctrl.jogDirection)) true).ctrl.state = .jog := hst
      unfold State.press
      rw [if_pos (by rw [hst']; rfl), hk]
      dsimp only
      rw [State.requestPress_of_local k hkey (hmode.trans hlocal) (hsequence.trans (hsilent (.inr hlocal)))]
      unfold State.motionPress
      exact (if_pos hst').trans (if_neg (otherKey_ne (holdingKey_ne_reset _)))
    rw [hpress]
    exact hwrite.leaveJog hst
  · refine hsettled (hwrite.advances fun hst hl => ?_)
    have hne : key ≠ otherKey (holdingKey s.ctrl.jogDirection) := fun e => hends ⟨hst, hl, e⟩
    obtain ⟨hlocal, hholding, hreleased⟩ := ((requestLaw_iff s).1 hl).2 hst
    refine ⟨hmode.trans hlocal, ?_, ?_⟩
    · by_cases he : key = holdingKey s.ctrl.jogDirection
      · rw [← he]; exact hpressed
      · rw [hother _ (Ne.symm he)]; exact hholding
    · rw [hother _ hne.symm]; exact hreleased

theorem execKeyPress_advances {m : Time} {key : Key} {s t : State} (h : execKeyPress m key s = .next t) :
    Advances s t := by
  unfold execKeyPress at h
  split at h
  · cases h; exact Advances.refl s
  · next hfree =>
    simp only [Bool.or_eq_true, not_or, Bool.not_eq_true, Bool.not_eq_true', Bool.not_eq_false] at hfree
    obtain ⟨⟨-, hblocked⟩, hpresent⟩ := hfree
    exact Advances.onFilter (fun now hrun => Advances.press (s := s.tick now) hrun hblocked hpresent) h

/-! ## Releases, the mode and the pendant's presence -/

/-- A release ends the sequence of its kind and the jog it holds, or it is a write alone. -/
theorem Advances.releaseKey {s : State} (key : Key) (hrun : s.start.resetHeld = false) :
    Advances s (s.releaseKey key) := by
  have hwrite : PendantWrite s (s.setPressed key false).request :=
    PendantWrite.setKey key _ hrun rfl fun _ _ => rfl
  have hmode : (s.setPressed key false).request.mode = s.request.mode := (s.request.setKey_same _ key).2.2.1
  have hreleased (key' : Key) (h : (s.request.key key').pressed = false) :
      ((s.setPressed key false).request.key key').pressed = false := by
    simp only [State.setPressed, RequestUnit.key_setKey]
    split
    · rfl
    · exact h
  have hother (key' : Key) (hne : key' ≠ key) : (s.setPressed key false).request.key key' = s.request.key key' := by
    simp [State.setPressed, RequestUnit.key_setKey, hne]
  have hjog (hne : ¬(s.ctrl.state = .jog ∧ key = holdingKey s.ctrl.jogDirection)) (hst : s.ctrl.state = .jog)
      (hl : RequestLaw s) : (s.setPressed key false).request.HoldsJog s.ctrl.jogDirection := by
    obtain ⟨hlocal, hholding, hfree⟩ := ((requestLaw_iff s).1 hl).2 hst
    exact ⟨hmode.trans hlocal, by rw [hother _ fun e => hne ⟨hst, e.symm⟩]; exact hholding, hreleased _ hfree⟩
  unfold State.releaseKey
  dsimp only
  split
  · next hop =>
    split
    · split
      · next hends => exact hwrite.endSequence.leaveJog hends.1
      · next hkept =>
        exact hwrite.endSequence.advances fun hst hl =>
          have ⟨hlocal, hholding, hfree⟩ := hjog hkept hst hl
          ⟨hlocal, by cases hd : s.ctrl.jogDirection <;> simpa [hd, holdingKey, RequestUnit.key] using hholding,
            by cases hd : s.ctrl.jogDirection <;> simpa [hd, holdingKey, otherKey, RequestUnit.key] using hfree⟩
    · split
      · next hends => exact hwrite.leaveJog hends.1
      · next hkept => exact hwrite.advances (hjog hkept)
  · next hop =>
    exact hwrite.advances (hjog fun ⟨hst, _⟩ => hop (by show s.ctrl.state.isOperating = true; rw [hst]; rfl))

theorem execKeyRelease_advances {m : Time} {key : Key} {s t : State} (h : execKeyRelease m key s = .next t) :
    Advances s t := by
  unfold execKeyRelease at h
  split at h
  · exact Advances.onFilter (fun now hrun => Advances.releaseKey (s := s.tick now) key hrun) h
  · cases h; exact Advances.refl s

/-- The mode written, with the sequence ended in LOCAL. -/
theorem PendantWrite.setMode {s : State} (mode : Mode) (hrun : s.start.resetHeld = false)
    (hend : mode = .localMode → s.ctrl.state.isOperating = false) :
    PendantWrite s { s.request with mode := mode, modeFrom := some s.now } where
  slots_eq := rfl
  condition := rfl
  since := rfl
  channels := ⟨rfl, rfl⟩
  sequence := .inl rfl
  fits := fun hl => by
    obtain ⟨hclear, hkeys, hsilent⟩ := ((requestLaw_iff s).1 hl).1
    exact ⟨hclear, hkeys, fun h => hsilent (.inl (h.elim id hend))⟩
  filter := fun hl => by
    unfold FilterLaw at *
    simp only [List.forall_mem_cons] at hl ⊢
    obtain ⟨h1, h2, h3, h4, h5, h6, h7, -, h9⟩ := hl
    exact ⟨h1, h2, h3, h4, h5, h6, h7, filterLaw_write hrun rfl, h9⟩

theorem PendantWrite.setLocal {s : State} (hrun : s.start.resetHeld = false) :
    PendantWrite s { s.request with mode := .localMode, modeFrom := some s.now, sequence := none } where
  slots_eq := rfl
  condition := rfl
  since := rfl
  channels := ⟨rfl, rfl⟩
  sequence := .inr rfl
  fits := fun hl => by
    obtain ⟨hclear, hkeys, -⟩ := ((requestLaw_iff s).1 hl).1
    exact ⟨fun ha => ⟨(hclear ha).1, rfl⟩, hkeys, fun _ => rfl⟩
  filter := fun hl => by
    unfold FilterLaw at *
    simp only [List.forall_mem_cons] at hl ⊢
    obtain ⟨h1, h2, h3, h4, h5, h6, h7, -, h9⟩ := hl
    exact ⟨h1, h2, h3, h4, h5, h6, h7, filterLaw_write hrun rfl, h9⟩

theorem execModeChange_advances {m : Time} {mode : Mode} {s t : State} (h : execModeChange m mode s = .next t) :
    Advances s t := by
  unfold execModeChange at h
  split at h
  · cases h; exact Advances.refl s
  · refine Advances.onFilter (fun now hrun => ?_) h
    generalize hx : s.tick now = x
    have hrun' : x.start.resetHeld = false := hx ▸ hrun
    have hresting (hop : ¬x.ctrl.state.isOperating = true) : x.ctrl.state ≠ .jog := fun e => hop (by rw [e]; rfl)
    cases mode with
    | localMode =>
      dsimp only
      split
      · exact (PendantWrite.setLocal hrun').advances fun hst hl => ⟨rfl, (((requestLaw_iff x).1 hl).2 hst).2⟩
      · next hop =>
        exact (PendantWrite.setMode .localMode hrun' fun _ => by simpa using hop).advances fun e => absurd e (hresting hop)
    | groupMode =>
      have hwrite := PendantWrite.setMode .groupMode hrun' fun e => Mode.noConfusion e
      dsimp only
      split
      · unfold State.leaveJogIfIn
        split
        · next hst => exact hwrite.leaveJog hst
        · next hst => exact hwrite.advances fun e => absurd e hst
      · next hop => exact hwrite.advances fun e => absurd e (hresting hop)

/-! ## The pendant's presence

A pendant that leaves releases every key before the request law can read its absence: the two writes of the presence are
moved behind the releases, which do not read them. -/

/-- The pendant's presence and its filter's moment written. -/
def State.setPendant (s : State) (present : Bool) (since : Option Time) : State :=
  { s with request := { s.request with pendantPresent := present, pendantFrom := since } }

section SetPendant

variable (s : State) (p : Bool) (f : Option Time)

theorem State.chainStep_setPendant : (s.setPendant p f).chainStep = s.chainStep.setPendant p f := by
  have hready : (s.setPendant p f).enterReady = s.enterReady.setPendant p f := by
    unfold State.enterReady
    rw [show (s.setPendant p f).assemblyHolds = s.assemblyHolds from rfl]
    split <;> rfl
  have hcommand : (s.setPendant p f).command = s.command := rfl
  have hpredicates : (s.setPendant p f).groupAssembled = s.groupAssembled
      ∧ (s.setPendant p f).assemblyHolds = s.assemblyHolds ∧ (s.setPendant p f).poised = s.poised
      ∧ (s.setPendant p f).landed = s.landed := ⟨rfl, rfl, rfl, rfl⟩
  have hctrl : (s.setPendant p f).ctrl = s.ctrl := rfl
  obtain ⟨hassembled, hholds, hpoised, hlanded⟩ := hpredicates
  unfold State.chainStep
  rw [hctrl]
  cases s.ctrl.state <;> simp only [hready, hcommand, hassembled, hholds, hpoised, hlanded] <;> repeat' split
  all_goals rfl

theorem State.settleFrom_setPendant (old : StationState) :
    (s.setPendant p f).settleFrom old = (s.settleFrom old).setPendant p f := by
  have hhandOn (x : State) : (x.setPendant p f).handOn old = (x.handOn old).setPendant p f := by
    unfold State.handOn
    rw [show (x.setPendant p f).ctrl = x.ctrl from rfl]
    dsimp only
    split
    · rfl
    · split <;> rfl
  unfold State.settleFrom State.chain
  rw [s.chainStep_setPendant, State.chainStep_setPendant, State.chainStep_setPendant, State.chainStep_setPendant, hhandOn]
  rfl

theorem State.leaveJog_setPendant : (s.setPendant p f).leaveJog = s.leaveJog.setPendant p f := by
  unfold State.leaveJog State.enterReady
  rw [show (s.setPendant p f).ctrl = s.ctrl from rfl, show (s.setPendant p f).assemblyHolds = s.assemblyHolds from rfl,
    ← State.settleFrom_setPendant]
  congr 1
  repeat' split
  all_goals rfl

theorem State.releaseKey_setPendant (key : Key) :
    (s.setPendant p f).releaseKey key = (s.releaseKey key).setPendant p f := by
  have hpressed : (s.setPendant p f).setPressed key false = (s.setPressed key false).setPendant p f := by
    cases key <;> rfl
  unfold State.releaseKey
  rw [hpressed]
  generalize s.setPressed key false = x
  have hkind : (x.setPendant p f).request.sequenceKind = x.request.sequenceKind := rfl
  have hctrl (y : State) : (y.setPendant p f).ctrl = y.ctrl := rfl
  have hend : (x.setPendant p f).endSequence = x.endSequence.setPendant p f := rfl
  dsimp only
  rw [hkind, hctrl, hend]
  by_cases hop : x.ctrl.state.isOperating = true
  · rw [if_pos hop, if_pos hop]
    by_cases hends : key ≠ .reset ∧ x.request.sequenceKind = keyKind key
    · rw [if_pos hends, if_pos hends, hctrl, State.leaveJog_setPendant]
      split <;> rfl
    · rw [if_neg hends, if_neg hends, hctrl, State.leaveJog_setPendant]
      split <;> rfl
  · rw [if_neg hop, if_neg hop]

theorem State.forceRelease_setPendant (key : Key) :
    (s.setPendant p f).forceRelease key = (s.forceRelease key).setPendant p f := by
  have hkey : (s.setPendant p f).request.key key = s.request.key key := by cases key <;> rfl
  unfold State.forceRelease
  rw [hkey, State.releaseKey_setPendant]
  split <;> rfl

end SetPendant

theorem State.leaveJog_key (s : State) (key : Key) : s.leaveJog.request.key key = s.request.key key := by
  unfold State.leaveJog State.enterReady
  rw [State.settleFrom_key]
  repeat' split
  all_goals cases key <;> rfl

theorem State.releaseKey_key (s : State) (key key' : Key) :
    (s.releaseKey key).request.key key' = (s.setPressed key false).request.key key' := by
  have hend (x : State) : x.endSequence.request.key key' = x.request.key key' := by cases key' <;> rfl
  unfold State.releaseKey
  dsimp only
  repeat' split
  all_goals simp only [State.leaveJog_key, hend]

/-- A forced release leaves its key RELEASED and presses none. -/
theorem State.forceRelease_pressed (s : State) (key key' : Key)
    (h : key' = key ∨ (s.request.key key').pressed = false) :
    ((s.forceRelease key).request.key key').pressed = false := by
  unfold State.forceRelease
  split
  · rw [State.releaseKey_key]
    simp only [State.setPressed, RequestUnit.key_setKey]
    split
    · rfl
    · next hne => exact h.resolve_left hne
  · next hnot =>
    rcases h with rfl | h
    · simpa using hnot
    · exact h

theorem Advances.forceRelease {s : State} (key : Key) (hrun : s.start.resetHeld = false) :
    Advances s (s.forceRelease key) := by
  unfold State.forceRelease
  split
  · exact Advances.releaseKey key hrun
  · exact Advances.refl s

theorem State.forceRelease_start (s : State) (key : Key) : (s.forceRelease key).start = s.start := by
  have hleave (x : State) : x.leaveJog.start = x.start := by
    unfold State.leaveJog State.enterReady
    rw [State.settleFrom_start]
    repeat' split
    all_goals rfl
  have hend (x : State) : x.endSequence.start = x.start := rfl
  unfold State.forceRelease State.releaseKey
  dsimp only
  repeat' split
  all_goals simp [hleave, State.setPressed]

/-- Every key released, as the pendant leaves. -/
def State.releaseAll (s : State) : State := ((s.forceRelease .raise).forceRelease .lower).forceRelease .reset

theorem State.releaseAll_setPendant (s : State) (p : Bool) (f : Option Time) :
    (s.setPendant p f).releaseAll = s.releaseAll.setPendant p f := by
  unfold State.releaseAll
  rw [State.forceRelease_setPendant, State.forceRelease_setPendant, State.forceRelease_setPendant]

theorem State.releaseAll_pressed (s : State) (key : Key) : (s.releaseAll.request.key key).pressed = false := by
  unfold State.releaseAll
  cases key
  · exact State.forceRelease_pressed _ _ _ (.inr (State.forceRelease_pressed _ _ _ (.inr
      (State.forceRelease_pressed _ _ _ (.inl rfl)))))
  · exact State.forceRelease_pressed _ _ _ (.inr (State.forceRelease_pressed _ _ _ (.inl rfl)))
  · exact State.forceRelease_pressed _ _ _ (.inl rfl)

theorem State.releaseAll_start (s : State) : s.releaseAll.start = s.start := by
  unfold State.releaseAll
  rw [State.forceRelease_start, State.forceRelease_start, State.forceRelease_start]

theorem Advances.releaseAll {s : State} (hrun : s.start.resetHeld = false) : Advances s s.releaseAll := by
  have hraise : (s.forceRelease .raise).start.resetHeld = false := by rw [State.forceRelease_start]; exact hrun
  have hlower : ((s.forceRelease .raise).forceRelease .lower).start.resetHeld = false := by
    rw [State.forceRelease_start]; exact hraise
  exact (Advances.forceRelease .raise hrun).trans ((Advances.forceRelease .lower hraise).trans
    (Advances.forceRelease .reset hlower))

/-- The pendant's presence written: it may be absent where every key reads RELEASED. -/
theorem PendantWrite.setPendant {s : State} {now : Time} (p : Bool) (hnow : now ≤ s.now)
    (hrun : s.start.resetHeld = false) (hreleased : p = true ∨ ∀ key, (s.request.key key).pressed = false) :
    PendantWrite s { s.request with pendantPresent := p, pendantFrom := some now } where
  slots_eq := rfl
  condition := rfl
  since := rfl
  channels := ⟨rfl, rfl⟩
  sequence := .inl rfl
  fits := fun hl => by
    obtain ⟨hclear, hkeys, hsilent⟩ := ((requestLaw_iff s).1 hl).1
    refine ⟨hclear, ?_, hsilent⟩
    rw [RequestUnit.forall_keys] at hkeys ⊢
    intro key h
    rcases hreleased with rfl | hr
    · exact hkeys key (.inl (h.resolve_right fun e => absurd e (by simp)))
    · exact hr key
  filter := fun hl => by
    unfold FilterLaw at *
    simp only [List.forall_mem_cons] at hl ⊢
    obtain ⟨h1, h2, h3, h4, h5, h6, h7, h8, -, h10⟩ := hl
    refine ⟨h1, h2, h3, h4, h5, h6, h7, h8, ⟨by rw [hrun]; rfl, ?_⟩, h10⟩
    rintro _ ⟨⟩
    exact hnow

/-- Every key blocked: it keeps its filtered state, RELEASED where the pendant was absent. -/
theorem PendantWrite.blockKeys {s : State} (hrun : s.start.resetHeld = false) (habsent : s.request.pendantPresent = false) :
    PendantWrite s (RequestUnit.blockKeys { s.request with pendantPresent := true, pendantFrom := some s.now } s.now) where
  slots_eq := rfl
  condition := rfl
  since := rfl
  channels := ⟨rfl, rfl⟩
  sequence := .inl rfl
  fits := fun hl => by
    obtain ⟨hclear, hkeys, hsilent⟩ := ((requestLaw_iff s).1 hl).1
    refine ⟨hclear, ?_, hsilent⟩
    rw [RequestUnit.forall_keys] at hkeys ⊢
    intro key _
    have := hkeys key (.inr habsent)
    cases key <;> exact this
  filter := fun hl => by
    have hw := filterLaw_write hrun (x := some s.now) rfl
    unfold FilterLaw at *
    simp only [List.forall_mem_cons] at hl ⊢
    obtain ⟨h1, h2, h3, h4, -, -, -, h8, -, h10⟩ := hl
    exact ⟨h1, h2, h3, h4, hw, hw, hw, h8, hw, h10⟩

theorem execPendantPresentChange_advances {m : Time} {active : Bool} {s t : State}
    (h : execPendantPresentChange m active s = .next t) : Advances s t := by
  unfold execPendantPresentChange at h
  split at h
  · cases h; exact Advances.refl s
  · next hchange =>
    refine Advances.onFilter (fun now hrun => ?_) h
    have hchange' : active ≠ (s.tick now).request.pendantPresent := hchange
    have hrun' : (s.tick now).start.resetHeld = false := hrun
    generalize s.tick now = x at hchange' hrun'
    cases active with
    | true =>
      refine (PendantWrite.blockKeys hrun' (by simpa using hchange')).advances fun hst hl => ?_
      obtain ⟨hlocal, hholding, hfree⟩ := ((requestLaw_iff x).1 hl).2 hst
      refine ⟨hlocal, ?_, ?_⟩
      · cases hd : x.ctrl.jogDirection <;> rw [hd] at hholding <;> exact hholding
      · cases hd : x.ctrl.jogDirection <;> rw [hd] at hfree <;> exact hfree
    | false =>
      show Advances x (x.setPendant false (some x.now)).releaseAll
      rw [State.releaseAll_setPendant]
      have hall := Advances.releaseAll hrun'
      refine hall.trans ((PendantWrite.setPendant false hall.now_le (by rw [State.releaseAll_start]; exact hrun')
        (.inr x.releaseAll_pressed)).advances fun hst hl => ?_)
      have hholding := (((requestLaw_iff x.releaseAll).1 hl).2 hst).2.1
      rw [State.releaseAll_pressed] at hholding
      exact Bool.noConfusion hholding

/-! ## Keys freed, the lamp and the repeat timer -/

theorem execKeyUnblock_advances {m : Time} {key : Key} {s t : State} (h : execKeyUnblock m key s = .next t) :
    Advances s t := by
  unfold execKeyUnblock at h
  split at h
  · refine Advances.onFilter (fun now hrun => ?_) h
    have hblocked : ((s.tick now).request.key key).blocked = true := by assumption
    have hrun' : (s.tick now).start.resetHeld = false := hrun
    generalize s.tick now = x at hrun' hblocked
    have hreleased (hl : RequestLaw x) : (x.request.key key).pressed = false :=
      RequestUnit.forall_keys.1 hl.2.1 key (.inl hblocked)
    refine (PendantWrite.setKey key { x.request.key key with blocked := false, filterFrom := some x.now } hrun' rfl
      fun hl _ => hreleased hl).advances fun hst hl => ?_
    obtain ⟨hlocal, hholding, hfree⟩ := ((requestLaw_iff x).1 hl).2 hst
    have hsame (key' : Key) : ((x.request.setKey { x.request.key key with blocked := false, filterFrom := some x.now }
        key).key key').pressed = (x.request.key key').pressed := by
      rw [RequestUnit.key_setKey]
      split
      · next he => rw [he]
      · rfl
    exact ⟨(x.request.setKey_same _ key).2.2.1.trans hlocal, (hsame _).trans hholding, (hsame _).trans hfree⟩
  · cases h; exact Advances.refl s

theorem execRefusedPulseEnd_advances {s t : State} (h : execRefusedPulseEnd s = .next t) : Advances s t :=
  Advances.onTimer (fun due _ _ =>
    Advances.ofRequest { (s.tick due).request with refusedLamp := none } rfl id id id id) h

theorem execRepeatTimerExpiry_advances {s t : State} (h : execRepeatTimerExpiry s = .next t) : Advances s t := by
  refine Advances.onTimer (fun due _ _ => ?_) h
  generalize s.tick due = x
  split
  · next q hq =>
    have hsome : x.request.sequence ≠ none := by simp [hq]
    refine Advances.makeRequest (fun hl => ?_) (fun hl => ?_) (fun hl => ?_)
    · obtain ⟨hclear, -⟩ := hl
      cases hset : x.ctrl.assembled with
      | true => rfl
      | false => exact absurd (hclear hset).2 hsome
    · obtain ⟨-, -, hsilent, -⟩ := hl
      refine ⟨?_, fun hmode => hsome (hsilent (.inr hmode))⟩
      cases hop : x.ctrl.state.isOperating with
      | true => rfl
      | false => exact absurd (hsilent (.inl hop)) hsome
    · exact ⟨fun hst => hsome (hl (.inl hst)).2.2.2.2, fun hn => hsome (hl (.inr hn)).2.2.2.2⟩
  · exact Advances.refl x

/-! ## The e-stop -/

/-- A channel's change written, the pair watched: every law but the e-stop law. -/
theorem Keeps.setChannel {s : State} (isOpen : Bool) (channel : Channel) (hrun : s.start.resetHeld = false) :
    Keeps s { s with request := (s.request.setChannel isOpen s.now channel).watchPair s.now } :=
  { (Advances.refl s).toKeeps with
    request := fun hl => by cases channel <;> exact hl
    lampsAndPark := fun hl => by cases channel <;> exact hl
    bus := fun hl => by cases channel <;> exact hl
    filter := fun hl => by
      have hw := filterLaw_write hrun (x := some s.now) rfl
      unfold FilterLaw at *
      cases channel <;> simp only [List.forall_mem_cons] at hl ⊢
      · obtain ⟨h1, h2, h3, h4, h5, h6, h7, h8, h9, -, h11⟩ := hl
        exact ⟨h1, h2, h3, h4, h5, h6, h7, h8, h9, hw, h11⟩
      · obtain ⟨h1, h2, h3, h4, h5, h6, h7, h8, h9, h10, -, h12⟩ := hl
        exact ⟨h1, h2, h3, h4, h5, h6, h7, h8, h9, h10, hw, h12⟩ }

/-- The discrepancy timer runs only while the channels differ (R130). -/
theorem RequestUnit.watchPair_since (r : RequestUnit) (now : Time)
    (h : (r.watchPair now).discrepancySince.isSome = true) :
    (r.watchPair now).estopAOpen ≠ (r.watchPair now).estopBOpen := fun he => by
  have hnone : (r.watchPair now).discrepancySince = none := if_pos he
  rw [hnone] at h
  cases h

theorem execEstopChannelChange_advances {m : Time} {channel : Channel} {isOpen : Bool} {s t : State}
    (h : execEstopChannelChange m channel isOpen s = .next t) : Advances s t := by
  unfold execEstopChannelChange at h
  split at h
  · cases h; exact Advances.refl s
  · refine Advances.onFilter (fun now hrun => ?_) h
    have hrun' : (s.tick now).start.resetHeld = false := hrun
    generalize s.tick now = x at hrun'
    have hkeeps := Keeps.setChannel isOpen channel hrun'
    have htimer := (x.request.setChannel isOpen x.now channel).watchPair_since x.now
    dsimp only
    generalize hr : (x.request.setChannel isOpen x.now channel).watchPair x.now = r at hkeeps htimer ⊢
    split
    · next honset =>
      have htake := Advances.takeCauses { x with request := r } [.estop]
      refine { hkeeps.trans htake.toKeeps with estop := fun hl => ?_, commanded_le := htake.commanded_le }
      cases hop : x.ctrl.state.isOperating with
      | true => exact estopLaw_takeCauses 0 hop (fun _ => List.mem_singleton_self _) htimer
      | false =>
        rw [show State.takeCauses { x with request := r } [.estop] = { x with request := r } by
          rw [State.takeCauses_eq 0 (show Cause.insertAll [.estop] [] = [.estop] from rfl)]
          simp [hop]]
        refine ⟨fun _ => ?_, fun _ hst => ?_, htimer⟩
        · show x.ctrl.state.isResting = true
          cases hst : x.ctrl.state <;> simp_all [StationState.isOperating, StationState.isResting]
        · have hst' : x.ctrl.state = .halted := hst
          rw [hst'] at hop
          cases hop
    · next hno =>
      simp only [Bool.and_eq_true, Bool.not_eq_true', not_and, Bool.not_eq_false] at hno
      exact { hkeeps with
        estop := fun ⟨hrests, hheld, _⟩ =>
          ⟨fun hc => hrests (hno hc), fun hc hst => hheld (hno hc) hst, htimer⟩
        commanded_le := le_rfl }

theorem execDiscrepancyLatchSet_advances {s t : State} (h : execDiscrepancyLatchSet s = .next t) : Advances s t := by
  refine Advances.onTimer (fun due hdue _ => ?_) h
  have hsince : (s.tick due).request.discrepancySince.isSome = true := by
    cases hs : s.request.discrepancySince with
    | none => rw [hs] at hdue; cases hdue
    | some x => exact congrArg Option.isSome hs
  generalize s.tick due = x at hsince
  refine Advances.ofRequest _ rfl id (fun ⟨hrests, hheld, htimer⟩ => ?_) id id
  have hcondition : x.request.estopCondition = true := by
    have hdiffer := htimer hsince
    unfold RequestUnit.estopCondition
    cases ha : x.request.estopAOpen <;> cases hb : x.request.estopBOpen <;> simp_all
  exact ⟨fun _ => hrests hcondition, fun _ hst => hheld hcondition hst, htimer⟩

end Sys2Proof.Machine
end

section
/-! The laws under the commands of the bus interface. -/

namespace Sys2Proof.Machine

/-! ## The bus interface between two attempts -/

/-- No attempt in progress, no token over its limit and the offset within its bound: what the bus law asks of the bus
interface as an attempt ends, before the pending requests are judged and the wait begins again. -/
structure Bus.Quiet (b : Bus) : Prop where
  attempts : ∀ p, b.attemptsOf p ≤ 15
  attempt : b.attempt = none
  offset : b.retryOffset ≤ 30

theorem Bus.Quiet.underAttempt {b : Bus} (h : b.Quiet) (p : Place) : b.underAttempt p = false := by
  simp [Bus.underAttempt, h.attempt]

theorem Bus.Quiet.of_eq {b b' : Bus} (h : b.Quiet) (hattempts : ∀ p, b'.attemptsOf p ≤ max 0 (b.attemptsOf p))
    (hattempt : b'.attempt = b.attempt) (hoffset : b'.retryOffset = b.retryOffset) : b'.Quiet where
  attempts := fun p => by have := hattempts p; have := h.attempts p; omega
  attempt := hattempt.trans h.attempt
  offset := hoffset ▸ h.offset

theorem Bus.Quiet.beginWait {b : Bus} (h : b.Quiet) (before : Bus) (now : Time) : (b.beginWait before now).Quiet := by
  unfold Bus.beginWait
  split
  · exact ⟨h.attempts, h.attempt, h.offset⟩
  · exact h

theorem Bus.Quiet.scheduleReport {b : Bus} (h : b.Quiet) (now : Time) : (b.scheduleReport now).Quiet := by
  unfold Bus.scheduleReport
  rw [if_neg (by simp [h.underAttempt])]
  split
  · exact h
  · exact (h.of_eq (fun p => by cases p <;> simp [Bus.attemptsOf]) rfl rfl : Bus.Quiet { b with
      report := some { prompt := false, entered := now, attempts := 0 } }).beginWait _ _

theorem Bus.Quiet.judgePrompt {b : Bus} (h : b.Quiet) (now : Time) : (b.judgePrompt now).Quiet := by
  unfold Bus.judgePrompt
  split
  · exact h
  · split
    · next t ht => exact h.of_eq (fun p => by cases p <;> simp [Bus.attemptsOf, ht]) rfl rfl
    · exact (h.of_eq (fun p => by cases p <;> simp [Bus.attemptsOf]) rfl rfl : Bus.Quiet { b with
        report := some { prompt := true, entered := now, attempts := 0 } }).beginWait _ _

theorem Bus.Quiet.askPrompt {b : Bus} (h : b.Quiet) (now : Time) (p : PeriodClass) (restart : Bool) :
    (b.askPrompt now p restart).Quiet := by
  unfold Bus.askPrompt
  rw [if_neg (by simp [h.underAttempt])]
  have := h.judgePrompt now
  split
  · exact ⟨this.attempts, this.attempt, this.offset⟩
  · exact this

theorem Bus.Quiet.requestMotion {b : Bus} (h : b.Quiet) (now : Time) (k : RequestKind) : (b.requestMotion now k).Quiet := by
  unfold Bus.requestMotion
  rw [if_neg (by simp [h.underAttempt])]
  exact (h.of_eq (fun p => by cases p <;> simp [Bus.attemptsOf]) rfl rfl : Bus.Quiet { b with
    motion := some { kind := k, entered := now, attempts := 0 } }).beginWait _ _

/-! ## Pending requests where no attempt is in progress -/

theorem Bus.beginWait_pending (b before : Bus) (now : Time) :
    (b.beginWait before now).pendingReport = b.pendingReport
      ∧ (b.beginWait before now).pendingMotion = b.pendingMotion := by
  unfold Bus.beginWait
  split <;> exact ⟨rfl, rfl⟩

theorem Bus.Quiet.scheduleReport_pending {b : Bus} (h : b.Quiet) (now : Time) :
    (b.scheduleReport now).pendingReport = b.pendingReport
      ∧ (b.scheduleReport now).pendingMotion = b.pendingMotion := by
  unfold Bus.scheduleReport
  rw [if_neg (by simp [h.underAttempt])]
  split
  · exact ⟨rfl, rfl⟩
  · exact Bus.beginWait_pending _ _ _

theorem Bus.judgePrompt_pending (b : Bus) (now : Time) :
    (b.judgePrompt now).pendingReport = b.pendingReport ∧ (b.judgePrompt now).pendingMotion = b.pendingMotion := by
  unfold Bus.judgePrompt
  split
  · exact ⟨rfl, rfl⟩
  · split
    · exact ⟨rfl, rfl⟩
    · exact Bus.beginWait_pending _ _ _

theorem Bus.Quiet.askPrompt_pending {b : Bus} (h : b.Quiet) (now : Time) (p : PeriodClass) (restart : Bool) :
    (b.askPrompt now p restart).pendingReport = b.pendingReport
      ∧ (b.askPrompt now p restart).pendingMotion = b.pendingMotion := by
  unfold Bus.askPrompt
  rw [if_neg (by simp [h.underAttempt])]
  split
  · exact b.judgePrompt_pending now
  · exact b.judgePrompt_pending now

theorem Bus.Quiet.requestMotion_pending {b : Bus} (h : b.Quiet) (now : Time) (k : RequestKind) :
    (b.requestMotion now k).pendingReport = b.pendingReport
      ∧ (b.requestMotion now k).pendingMotion = b.pendingMotion := by
  unfold Bus.requestMotion
  rw [if_neg (by simp [h.underAttempt])]
  exact Bus.beginWait_pending _ _ _

/-- No request is pending. -/
def Bus.Judged (b : Bus) : Prop := b.pendingReport = none ∧ b.pendingMotion = none

/-- A pending report request judged by its mark (R174). -/
def Bus.judgeReport (b : Bus) (pending : Option PendingReport) (now : Time) (p : PeriodClass) : Bus :=
  match pending with
  | some q => if q.prompt then b.askPrompt now p q.restart else b.scheduleReport now
  | none => b

/-- A pending motion request enters or replaces (R174). -/
def Bus.judgeMotion (b : Bus) (pending : Option RequestKind) (now : Time) : Bus :=
  match pending with
  | some k => b.requestMotion now k
  | none => b

theorem Bus.judgePending_eq (b : Bus) (now : Time) (p : PeriodClass) :
    b.judgePending now p = (Bus.judgeReport { b with pendingReport := none, pendingMotion := none } b.pendingReport now
      p).judgeMotion b.pendingMotion now := rfl

theorem Bus.Quiet.judgeReport {b : Bus} (h : b.Quiet) (hj : b.Judged) (pending : Option PendingReport) (now : Time)
    (p : PeriodClass) : (b.judgeReport pending now p).Quiet ∧ (b.judgeReport pending now p).Judged := by
  obtain ⟨hr, hm⟩ := hj
  unfold Bus.judgeReport
  split
  · split
    · obtain ⟨hr', hm'⟩ := h.askPrompt_pending now p _
      exact ⟨h.askPrompt _ _ _, hr'.trans hr, hm'.trans hm⟩
    · obtain ⟨hr', hm'⟩ := h.scheduleReport_pending now
      exact ⟨h.scheduleReport _, hr'.trans hr, hm'.trans hm⟩
  · exact ⟨h, hr, hm⟩

theorem Bus.Quiet.judgeMotion {b : Bus} (h : b.Quiet) (hj : b.Judged) (pending : Option RequestKind) (now : Time) :
    (b.judgeMotion pending now).Quiet ∧ (b.judgeMotion pending now).Judged := by
  obtain ⟨hr, hm⟩ := hj
  unfold Bus.judgeMotion
  split
  · obtain ⟨hr', hm'⟩ := h.requestMotion_pending now _
    exact ⟨h.requestMotion _ _, hr'.trans hr, hm'.trans hm⟩
  · exact ⟨h, hr, hm⟩

theorem Bus.Quiet.judgePending {b : Bus} (h : b.Quiet) (now : Time) (p : PeriodClass) :
    (b.judgePending now p).Quiet ∧ (b.judgePending now p).Judged := by
  have hcleared : Bus.Quiet { b with pendingReport := none, pendingMotion := none } :=
    ⟨h.attempts, h.attempt, h.offset⟩
  rw [Bus.judgePending_eq]
  obtain ⟨hquiet, hjudged⟩ := hcleared.judgeReport ⟨rfl, rfl⟩ b.pendingReport now p
  exact hquiet.judgeMotion hjudged _ _

/-- The wait begun again where tokens wait makes the bus interface sound. -/
theorem Bus.Quiet.waitAgain {b : Bus} (h : b.Quiet) (hj : b.Judged) (now : Time) : (b.waitAgain now).Sound := by
  obtain ⟨hr, hm⟩ := hj
  unfold Bus.waitAgain
  refine ⟨fun p _ => h.attempts p, ?_, ?_, ?_, h.offset, ?_⟩
  · simp [h.attempt]
  · simp [hr]
  · simp [hm]
  · show (if b.isEmpty then none else some now).isSome = (b.attempt.isNone && !b.isEmpty)
    cases b.isEmpty <;> simp [h.attempt]

/-! ## The queue's places -/

theorem Bus.emptyPlace_attemptsOf (b : Bus) (p q : Place) :
    (b.emptyPlace p).attemptsOf q = if q = p then 0 else b.attemptsOf q := by cases p <;> cases q <;> rfl

theorem Bus.emptyPlace_enteredAt (b : Bus) (p q : Place) :
    (b.emptyPlace p).enteredAt q = if q = p then none else b.enteredAt q := by cases p <;> cases q <;> rfl

theorem Bus.countFailure_attemptsOf (b : Bus) (p q : Place) :
    (b.countFailure p).attemptsOf q
      = if q = p ∧ (b.enteredAt p).isSome = true then b.attemptsOf q + 1 else b.attemptsOf q := by
  rcases b with ⟨report, motion, clear, _⟩
  cases p <;> cases q <;> simp [Bus.countFailure, Bus.attemptsOf, Bus.enteredAt]
  · cases report <;> simp
  · cases motion <;> simp
  · cases clear <;> simp

theorem Bus.enteredAt_older {x y : Option (Place × Time)} {p : Place} {t : Time} (h : Bus.older x y = some (p, t)) :
    x = some (p, t) ∨ y = some (p, t) := by
  unfold Bus.older at h
  split at h
  · split at h
    · exact .inr h
    · exact .inl h
  · exact .inl h
  · exact .inr h

/-- The token at the front stands in its place. -/
theorem Bus.enteredAt_front {b : Bus} {p : Place} (h : b.front = some p) : (b.enteredAt p).isSome = true := by
  unfold Bus.front at h
  split at h
  · next hprompt =>
    cases h
    cases hr : b.report with
    | none => simp [hr] at hprompt
    | some t => simp [Bus.enteredAt, hr]
  · obtain ⟨⟨p', t⟩, holder, rfl⟩ := Option.map_eq_some_iff.1 h
    have hplace (q : Place) (hq : (b.enteredAt q).map (Prod.mk q) = some (p', t)) :
        (b.enteredAt p').isSome = true := by
      obtain ⟨t', ht', he⟩ := Option.map_eq_some_iff.1 hq
      cases he
      simp [ht']
    rcases Bus.enteredAt_older holder with h | h
    · rcases Bus.enteredAt_older h with h | h
      · exact hplace _ h
      · exact hplace _ h
    · exact hplace _ h

/-! ## The commands -/

/-- A part with a token, an attempt, or a running report timer is not silent. -/
theorem State.SilentLaw.speaks_of {s : State} (h : s.SilentLaw)
    (hbus : s.bus.isEmpty = false ∨ s.bus.attempt ≠ none ∨ s.bus.reportTimer ≠ none) :
    s.ctrl.state ≠ .start ∧ s.start.stationNumber ≠ none := by
  have hnot : ¬(s.ctrl.state = .start ∨ s.start.stationNumber = none) := fun hst => by
    obtain ⟨-, hempty, hattempt, htimer, -⟩ := h hst
    rcases hbus with hb | hb | hb
    · exact absurd (hempty.symm.trans hb) (by simp)
    · exact hb hattempt
    · exact hb htimer
  exact not_or.1 hnot

/-- The bus interface of a part that speaks, written. -/
theorem Advances.ofSpeakingBus {s : State} {b : Bus} (hsound : s.bus.Sound → b.Sound)
    (hbus : s.bus.isEmpty = false ∨ s.bus.attempt ≠ none ∨ s.bus.reportTimer ≠ none) :
    Advances s { s with bus := b } := Advances.ofBus b fun hl => by
  obtain ⟨hs, hsilent⟩ := (busLaw_iff s).1 hl
  obtain ⟨hst, hnumber⟩ := hsilent.speaks_of hbus
  exact (busLaw_iff _).2 ⟨hsound hs, fun h => (h.elim hst hnumber).elim⟩

theorem execReportTimerExpiry_advances {s t : State} (h : execReportTimerExpiry s = .next t) : Advances s t := by
  refine Advances.onTimer (fun due hdue _ => ?_) h
  refine Advances.ofSpeakingBus (fun hl => hl.scheduleReport (s.tick due).now) (.inr (.inr fun hnone => ?_))
  rw [show s.bus.reportTimer = none from hnone] at hdue
  cases hdue

theorem execAccessGained_advances {s t : State} (h : execAccessGained s = .next t) : Advances s t := by
  refine Advances.onTimer (fun due hdue _ => ?_) h
  have hnone : (s.tick due).bus.attempt = none := by
    unfold State.accessMoment at hdue
    split at hdue
    · assumption
    · cases hdue
  generalize s.tick due = x at hnone
  split
  · next p hfront =>
    have hentered := Bus.enteredAt_front hfront
    refine Advances.ofSpeakingBus (fun hl => ?_) (.inl (Bus.isEmpty_of_enteredAt hentered))
    have hunder (q : Place) : x.bus.underAttempt q = false := by simp [Bus.underAttempt, hnone]
    obtain ⟨hcount, -, hreport, hmotion, -, -⟩ := hl
    rw [hunder] at hreport hmotion
    exact ⟨hcount, fun a ha => by cases ha; exact hentered, fun h => absurd (hreport h) (by simp),
      fun h => absurd (hmotion h) (by simp), Nat.zero_le _, rfl⟩
  · exact Advances.refl x

theorem Bus.Quiet.frameSent {b : Bus} (h : b.Sound) (p : Place) (now : Time) (period : PeriodClass) :
    (b.frameSent p now period).Sound := by
  obtain ⟨hcount, -, -, -, hbound, -⟩ := h
  have hquiet : Bus.Quiet { (b.endAttempt .waitingForIdle now).emptyPlace p with promptSpent := b.spentAfter p } := by
    refine ⟨fun q => ?_, ?_, ?_⟩
    · show ((b.endAttempt .waitingForIdle now).emptyPlace p).attemptsOf q ≤ 15
      rw [Bus.emptyPlace_attemptsOf]
      split
      · exact Nat.zero_le _
      · exact hcount q (by cases q <;> simp)
    · cases p <;> rfl
    · cases p <;> exact hbound
  obtain ⟨hjudged, hpending⟩ := hquiet.judgePending now period
  exact hjudged.waitAgain hpending now

theorem execAttemptSent_advances {s t : State} (h : execAttemptSent s = .next t) : Advances s t := by
  refine Advances.onTimer (fun due _ _ => ?_) h
  generalize s.tick due = x
  split
  · next a ha =>
    exact Advances.ofSpeakingBus (fun hl => Bus.Quiet.frameSent hl _ _ _) (.inr (.inl (by simp [ha])))
  · exact Advances.refl x

/-- The offset after a failure is within its bound (R181). -/
theorem retryOffset_le (unitNumber attempts : Nat) : retryOffset unitNumber attempts ≤ 30 := by
  unfold retryOffset
  omega

/-- The bus interface after a failure counted, its token kept or dropped by the limits, is between two attempts. -/
theorem Bus.Sound.failed {b : Bus} (h : b.Sound) (receiver : Receiver) (idle now : Time) (p : Place) (u : Nat) :
    let b1 := (b.endAttempt receiver idle).countFailure p
    let b2 := { b1 with retryOffset := Machine.retryOffset u (b1.attemptsOf p) }
    (b2.emptyPlace p).Quiet ∧ (b2.dropsToken p now = false → b2.Quiet) := by
  obtain ⟨hcount, -⟩ := h
  have hcount' (q : Place) : b.attemptsOf q ≤ 15 := hcount q (by cases q <;> simp)
  intro b1 b2
  have hattempts (q : Place) : b2.attemptsOf q ≤ if q = p then 16 else 15 := by
    have hb2 : b2.attemptsOf q = ((b.endAttempt receiver idle).countFailure p).attemptsOf q := by cases q <;> rfl
    have hend : (b.endAttempt receiver idle).attemptsOf q = b.attemptsOf q := by cases q <;> rfl
    have := hcount' q
    rw [hb2, Bus.countFailure_attemptsOf, hend]
    by_cases he : q = p
    · rw [if_pos he]
      split <;> omega
    · rw [if_neg he, if_neg fun h => he h.1]
      exact this
  have hattempt : b2.attempt = none := by show b1.attempt = none; cases p <;> rfl
  refine ⟨⟨fun q => ?_, ?_, ?_⟩, fun hkept => ⟨fun q => ?_, hattempt, retryOffset_le _ _⟩⟩
  · rw [Bus.emptyPlace_attemptsOf]
    have := hattempts q
    split
    · omega
    · next hne => rwa [if_neg hne] at this
  · cases p <;> exact hattempt
  · cases p <;> exact retryOffset_le _ _
  · have := hattempts q
    simp only [Bus.dropsToken, Bool.or_eq_false_iff, decide_eq_false_iff_not, not_le] at hkept
    by_cases he : q = p
    · subst he
      omega
    · rwa [if_neg he] at this

/-- An event of the halt unit leaves a quiet bus interface quiet: it may ask for a prompt report. -/
theorem State.takeCauses_quiet {s : State} (h : s.bus.Quiet) (causes : List Cause) (origin : Nat) :
    (s.takeCauses causes origin).bus.Quiet := by
  by_cases hne : causes = []
  · exact hne ▸ h
  · obtain ⟨first, rest, hinsert, -⟩ := Cause.insertAll_ne_nil hne
    rw [State.takeCauses_eq origin hinsert]
    split
    · exact h
    · split
      · exact h
      · rw [State.enterHalted_bus]
        split
        · exact h
        · exact h.askPrompt _ _ _

/-- An event of the halt unit leaves START only in START. -/
theorem State.takeCauses_start_state {s : State} {causes : List Cause} {origin : Nat}
    (h : (s.takeCauses causes origin).ctrl.state = .start) : s.ctrl.state = .start := by
  rcases s.takeCauses_cases causes origin with ⟨-, he⟩ | ⟨-, hh, he⟩ | ⟨c, -, -, -, hh, -⟩
  · rwa [he] at h
  · rw [he] at h
    exact absurd (hh.symm.trans h) (by simp)
  · exact absurd (hh.symm.trans h) (by simp)

theorem Advances.abandonAttempt {s : State} {a : Attempt} (ha : s.bus.attempt = some a) (broken : BrokenCharacter) :
    Advances s (s.abandonAttempt a.place broken) := by
  have hspeaks (hl : BusLaw s) : s.ctrl.state ≠ .start ∧ s.start.stationNumber ≠ none :=
    ((busLaw_iff s).1 hl).2.speaks_of (.inr (.inl (by simp [ha])))
  have hfailed (hl : BusLaw s) := ((busLaw_iff s).1 hl).1.failed (s.bus.receiverAfter broken) (s.now + broken.held) s.now
    a.place s.start.unitNumber
  unfold State.abandonAttempt
  extract_lets b1 b2
  split
  · next hdrops =>
    have htake := Advances.takeCauses { s with bus := b2.emptyPlace a.place } [.busBlocked]
    refine { htake with bus := fun hl => ?_ }
    obtain ⟨hjudged, hpending⟩ := (State.takeCauses_quiet (s := { s with bus := b2.emptyPlace a.place })
      (hfailed hl).1 [.busBlocked] 0).judgePending (State.takeCauses _ _ _).now (State.takeCauses _ _ _).ctrl.state.period
    obtain ⟨hst, hnumber⟩ := hspeaks hl
    obtain ⟨-, hstart, -⟩ := State.takeCauses_frame { s with bus := b2.emptyPlace a.place } [.busBlocked] 0
    refine (busLaw_iff _).2 ⟨hjudged.waitAgain hpending _, fun h => ?_⟩
    rcases h with h | h
    · exact absurd (State.takeCauses_start_state h) hst
    · exact absurd ((congrArg StartUnit.stationNumber hstart).symm.trans h) hnumber
  · next hdrops =>
    refine { Advances.refl s with bus := fun hl => ?_ }
    obtain ⟨hst, hnumber⟩ := hspeaks hl
    obtain ⟨hjudged, hpending⟩ := ((hfailed hl).2 (by simpa using hdrops)).judgePending s.now s.ctrl.state.period
    exact (busLaw_iff _).2 ⟨hjudged.waitAgain hpending _, fun h => (h.elim hst hnumber).elim⟩

theorem execAttemptAbandoned_advances {broken : BrokenCharacter} {s t : State}
    (h : execAttemptAbandoned broken s = .next t) : Advances s t := by
  refine Advances.onTimer (fun due _ _ => ?_) h
  generalize s.tick due = x
  split
  · next a ha => exact Advances.abandonAttempt ha broken
  · exact Advances.refl x

theorem Bus.Sound.dropWaiting {b : Bus} {p : Place} (h : b.Sound) (hunder : b.underAttempt p = false)
    (hentered : (b.enteredAt p).isSome = true) : (b.dropWaiting p).Sound := by
  obtain ⟨hcount, hplace, hreport, hmotion, hbound, hwait⟩ := h
  have hkeeps : (b.emptyPlace p).attempt = b.attempt ∧ (b.emptyPlace p).pendingReport = b.pendingReport
      ∧ (b.emptyPlace p).pendingMotion = b.pendingMotion ∧ (b.emptyPlace p).retryOffset = b.retryOffset
      ∧ (b.emptyPlace p).accessWait = b.accessWait := by cases p <;> exact ⟨rfl, rfl, rfl, rfl, rfl⟩
  obtain ⟨hattempt, hpendingReport, hpendingMotion, hoffset, haccess⟩ := hkeeps
  have hunder' (q : Place) : (b.emptyPlace p).underAttempt q = b.underAttempt q := by
    unfold Bus.underAttempt
    rw [hattempt]
  rw [Bus.isEmpty_of_enteredAt hentered] at hwait
  unfold Bus.dropWaiting
  refine ⟨fun q hq => ?_, fun a ha => ?_, ?_, ?_, ?_, ?_⟩
  · show (b.emptyPlace p).attemptsOf q ≤ 15
    rw [Bus.emptyPlace_attemptsOf]
    split
    · exact Nat.zero_le _
    · exact hcount q hq
  · have ha' : a ∈ b.attempt := hattempt ▸ ha
    show ((b.emptyPlace p).enteredAt a.place).isSome = true
    rw [Bus.emptyPlace_enteredAt, if_neg]
    · exact hplace a ha'
    · intro he
      rw [Option.mem_def] at ha'
      simp [Bus.underAttempt, ha', he] at hunder
  · show (b.emptyPlace p).pendingReport.isSome = true → (b.emptyPlace p).underAttempt .report = true
    rw [hpendingReport, hunder']
    exact hreport
  · show (b.emptyPlace p).pendingMotion.isSome = true → (b.emptyPlace p).underAttempt .motion = true
    rw [hpendingMotion, hunder']
    exact hmotion
  · exact hoffset.trans_le hbound
  · show (if (b.emptyPlace p).isEmpty = true then none else (b.emptyPlace p).accessWait).isSome
      = ((b.emptyPlace p).attempt.isNone && !(b.emptyPlace p).isEmpty)
    rw [hattempt, haccess]
    cases (b.emptyPlace p).isEmpty <;> simp [hwait]

theorem execTokenTimeout_advances {p : Place} {s t : State} (h : execTokenTimeout p s = .next t) : Advances s t := by
  refine Advances.onTimer (fun due hdue _ => ?_) h
  have hlimit : (s.tick due).bus.limitOf p = some due := hdue
  generalize s.tick due = x at hlimit
  unfold Bus.limitOf at hlimit
  split at hlimit
  · cases hlimit
  · next hunder =>
    have hentered : (x.bus.enteredAt p).isSome = true := by
      cases he : x.bus.enteredAt p with
      | none => rw [he] at hlimit; cases hlimit
      | some w => rfl
    have hdrop : Advances x { x with bus := x.bus.dropWaiting p } :=
      Advances.ofSpeakingBus (fun hl => hl.dropWaiting (by simpa using hunder) hentered)
        (.inl (Bus.isEmpty_of_enteredAt hentered))
    exact hdrop.trans (Advances.takeCauses _ _)

/-- What the interface knows of the line is no law's. -/
theorem Advances.ofLine (s : State) (receiver : Receiver) (idleFrom : Time) :
    Advances s { s with bus := { s.bus with receiver := receiver, idleFrom := idleFrom } } := Advances.ofBus _ id

theorem execStartBitSeen_advances {seen : LineCharacter} {s t : State} (h : execStartBitSeen seen s = .next t) :
    Advances s t := Advances.onEvent (fun _ => Advances.ofLine (s.tick seen.moment) _ _) h

theorem execReceivedFrameDiscarded_advances {m : Time} {reason : DiscardReason} {s t : State}
    (h : execReceivedFrameDiscarded m reason s = .next t) : Advances s t :=
  Advances.onEvent (fun _ => Advances.ofLine (s.tick m) _ _) h

end Sys2Proof.Machine
end

section
/-! Every command and every step: what each completes, keeps and leaves. -/

namespace Sys2Proof.Machine

/-- Every command answers a next state (R4: there is no fault and no refusal). -/
theorem exec_completes (c : Instr) (s : State) : ∃ t, exec c s = .next t := by
  have hif {b : Prop} [Decidable b] {x y : Host.Outcome State Fault Refusal} (hx : ∃ t, x = .next t)
      (hy : ∃ t, y = .next t) : ∃ t, (if b then x else y) = .next t := by split <;> assumption
  cases c with
  | supplyLowChange | switchFilterChange | keyPress | modeChange | pendantPresentChange | estopChannelChange
  | keyRelease | keyUnblock => exact hif ⟨_, rfl⟩ ⟨_, rfl⟩
  | _ => exact ⟨_, rfl⟩

/-- Every command but the control-timer expiry keeps every law and lets the commanded output stand or fall. -/
theorem exec_advances {c : Instr} {s t : State} (hc : c ≠ .controlTimerExpiry) (h : exec c s = .next t) :
    Advances s t := by
  cases c with
  | resetOnset => exact execResetOnset_advances h
  | resetEnd => exact execResetEnd_advances h
  | holdOffExpiry => exact execHoldOffExpiry_advances h
  | optionReadEnd => exact execOptionReadEnd_advances h
  | encoderEdge => exact execEncoderEdge_advances h
  | sampleTimerExpiry => exact execSampleTimerExpiry_advances h
  | converterReadEnd => exact execConverterReadEnd_advances h
  | switchFilterChange => exact execSwitchFilterChange_advances h
  | controlTimerExpiry => exact absurd rfl hc
  | supplyLowChange => exact execSupplyLowChange_advances h
  | releaseTimerExpiry => exact execReleaseTimerExpiry_advances h
  | setDelayExpiry => exact execSetDelayExpiry_advances h
  | keyPress => exact execKeyPress_advances h
  | keyRelease => exact execKeyRelease_advances h
  | modeChange => exact execModeChange_advances h
  | pendantPresentChange => exact execPendantPresentChange_advances h
  | keyUnblock => exact execKeyUnblock_advances h
  | refusedPulseEnd => exact execRefusedPulseEnd_advances h
  | repeatTimerExpiry => exact execRepeatTimerExpiry_advances h
  | estopChannelChange => exact execEstopChannelChange_advances h
  | discrepancyLatchSet => exact execDiscrepancyLatchSet_advances h
  | reportFrame => exact execReportFrame_advances h
  | raiseFrame => exact Advances.onRequest (fun n u x => Advances.takeRequest x n u .raise) h
  | lowerFrame => exact Advances.onRequest (fun n u x => Advances.takeRequest x n u .lower) h
  | clearFrame => exact Advances.onRequest (fun n u x => Advances.takeClear x n u) h
  | slotWindowExpiry => exact execSlotWindowExpiry_advances h
  | staleDeadlineExpiry => exact execStaleDeadlineExpiry_advances h
  | contestDeadlineExpiry => exact execContestDeadlineExpiry_advances h
  | clashHoldExpiry => exact execClashHoldExpiry_advances h
  | clearGraceEnd => exact execClearGraceEnd_advances h
  | parkTimerExpiry => exact execParkTimerExpiry_advances h
  | reportTimerExpiry => exact execReportTimerExpiry_advances h
  | accessGained => exact execAccessGained_advances h
  | attemptSent => exact execAttemptSent_advances h
  | attemptAbandoned => exact execAttemptAbandoned_advances h
  | tokenTimeout => exact execTokenTimeout_advances h
  | startBitSeen => exact execStartBitSeen_advances h
  | receivedFrameDiscarded => exact execReceivedFrameDiscarded_advances h
  | requestFrameOtherCode => exact Advances.onRequest (fun _ _ x => Advances.refl x) h

/-- Every command keeps every law but the e-stop law, and that one too. -/
theorem exec_keeps {c : Instr} {s t : State} (h : exec c s = .next t) : Keeps s t ∧ (EstopLaw s → EstopLaw t) := by
  by_cases hc : c = .controlTimerExpiry
  · subst hc
    obtain ⟨hkeeps, hestop, -⟩ := execControlTimerExpiry_keeps h
    exact ⟨hkeeps, hestop⟩
  · have := exec_advances hc h
    exact ⟨this.toKeeps, this.estop⟩

/-- A law that every command keeps, and that does not read the queue, is kept by every step. -/
theorem keptByStep {law : State → Prop} (hqueue : ∀ (s : State) (q : List Instr), law s → law { s with pending := q })
    (hexec : ∀ (c : Instr) (s t : State), exec c s = .next t → law s → law t) : KeptByStep law := by
  intro s t hl h
  unfold step at h
  split at h
  · cases h; exact hl
  · exact hexec _ _ _ h (hqueue s _ hl)

/-- Settles O2: each command answers a next state, and the laws' common relation carries the queue and the clock. -/
theorem everyCommandCompletes : Obligations.EveryCommandCompletes := by
  intro c s
  obtain ⟨t, ht⟩ := exec_completes c s
  obtain ⟨hkeeps, -⟩ := exec_keeps ht
  exact ⟨t, ht, hkeeps.pending_eq, hkeeps.now_le⟩

/-- Settles O5: every other command lets the output stand or fall, and an expiry raises it by the ramp at most. -/
theorem outputRisesAtControlExpiriesAlone : Obligations.OutputRisesAtControlExpiriesAlone := by
  intro c s t h
  refine ⟨fun hc => (exec_advances hc h).commanded_le, fun hc => ?_⟩
  subst hc
  exact (execControlTimerExpiry_keeps h).2.2

/-- Settles O6: the brake law is one of those every command keeps; the lines are read off the drive unit's items. -/
theorem stepKeepsBrakeLaw : Obligations.StepKeepsBrakeLaw := by
  refine ⟨keptByStep (fun _ _ => id) fun _ _ _ h => (exec_keeps h).1.brake, fun s => ⟨⟨?_, ?_⟩, rfl, rfl, ?_⟩⟩
  · unfold Drive.enableLine
    cases s.drive.brake <;> simp
  · unfold Drive.releaseLine
    cases s.drive.brake <;> simp
  · rintro ⟨happlied, hresting, -⟩ hst
    have hset := hresting hst
    simp [Drive.enableLine, Drive.releaseLine, Drive.demandLine, hset, happlied]

/-- Settles O7. -/
theorem stepKeepsOutputLaw : Obligations.StepKeepsOutputLaw :=
  keptByStep (fun _ _ => id) fun _ _ _ h => (exec_keeps h).1.output

/-- Settles O8. -/
theorem stepKeepsHaltLaw : Obligations.StepKeepsHaltLaw :=
  keptByStep (fun _ _ => id) fun _ _ _ h => (exec_keeps h).1.halt

/-- Settles O9: a halt by the e-stop holds ESTOP, and no way out of HALTED leads past the condition. -/
theorem stepKeepsEstopLaw : Obligations.StepKeepsEstopLaw :=
  keptByStep (fun _ _ => id) fun _ _ _ h => (exec_keeps h).2

/-- Settles O10. -/
theorem stepKeepsContextAndLampLaws : Obligations.StepKeepsContextAndLampLaws :=
  ⟨keptByStep (fun _ _ => id) fun _ _ _ h => (exec_keeps h).1.context,
    keptByStep (fun _ _ => id) fun _ _ _ h => (exec_keeps h).1.lampsAndPark⟩

/-- Settles O11. -/
theorem stepKeepsMembersLaw : Obligations.StepKeepsMembersLaw :=
  keptByStep (fun _ _ => id) fun _ _ _ h => (exec_keeps h).1.members

/-- Settles O12. -/
theorem stepKeepsPeerTableLaws : Obligations.StepKeepsPeerTableLaws :=
  ⟨keptByStep (fun _ _ => id) fun _ _ _ h => (exec_keeps h).1.ownEntry,
    keptByStep (fun _ _ => id) fun _ _ _ h => (exec_keeps h).1.entries⟩

/-- Settles O13. -/
theorem stepKeepsRequestLaw : Obligations.StepKeepsRequestLaw :=
  keptByStep (fun _ _ => id) fun _ _ _ h => (exec_keeps h).1.request

/-- Settles O14. -/
theorem stepKeepsStartAndMeasureLaws : Obligations.StepKeepsStartAndMeasureLaws :=
  ⟨keptByStep (fun _ _ => id) fun _ _ _ h => (exec_keeps h).1.start,
    keptByStep (fun _ _ => id) fun _ _ _ h => (exec_keeps h).1.measure,
    keptByStep (fun _ _ => id) fun _ _ _ h => (exec_keeps h).1.filter⟩

/-- Settles O15. -/
theorem stepKeepsBusLaw : Obligations.StepKeepsBusLaw :=
  keptByStep (fun _ _ => id) fun _ _ _ h => (exec_keeps h).1.bus

/-- Settles O3: every other command acts through `whenRunning`, or answers the part as it is. -/
theorem heldResetFreezesThePart : Obligations.HeldResetFreezesThePart := by
  intro c s hheld honset hend
  unfold exec
  cases c with
  | resetOnset m r => exact absurd rfl (honset m r)
  | resetEnd m i => exact absurd rfl (hend m i)
  | supplyLowChange | switchFilterChange | keyPress | modeChange | pendantPresentChange | estopChannelChange =>
    exact ite_eq_left_iff.2 fun _ => s.onFilter_held _ _ _ _ hheld
  | keyRelease | keyUnblock => exact ite_eq_right_iff.2 fun _ => s.onFilter_held _ _ _ _ hheld
  | encoderEdge | reportFrame | raiseFrame | lowerFrame | clearFrame | startBitSeen | receivedFrameDiscarded
  | requestFrameOtherCode => exact s.onEvent_held _ _ hheld
  | _ => exact s.onTimer_held _ _ hheld

/-- Settles O1: by the definition of a step. -/
theorem stepRunsTheFrontCommand : Obligations.StepRunsTheFrontCommand := by
  intro c rest s h
  rw [step, h]

end Sys2Proof.Machine
end

section
/-! What a command's statement says of the halt unit and of the transitions that follow: an event of causes taken, and a
part settled after a command's own writes. -/

namespace Sys2Proof.Machine

/-! ## An event of causes -/

/-- A prompt report asked for stands in the queue, where the flag is clear and no attempt is in progress (R177). -/
theorem Bus.askPrompt_stands {b : Bus} (now : Time) (p : PeriodClass) (restart : Bool) (hspent : b.promptSpent = false)
    (hattempt : b.attempt = none) : (b.askPrompt now p restart).report.any ReportToken.prompt = true := by
  have hjudge : (b.judgePrompt now).report.any ReportToken.prompt = true := by
    unfold Bus.judgePrompt
    rw [if_neg (by simp [hspent])]
    split
    · rfl
    · unfold Bus.beginWait
      split <;> rfl
  unfold Bus.askPrompt
  rw [if_neg (by simp [Bus.underAttempt, hattempt])]
  split
  · exact hjudge
  · exact hjudge

theorem State.settle_of_resting {s : State} (h : s.ctrl.state.isResting = true) : s.settle = s.refresh := by
  rw [State.settle, State.settleFrom, s.chain_resting h, State.handOn_of_same rfl]

/-- What an event of causes is judged by: `x` stands as `s` does for the halt unit. -/
structure HaltsAs (s x : State) : Prop where
  ctrl_eq : x.ctrl = s.ctrl
  halt_eq : x.halt = s.halt
  spent_eq : x.bus.promptSpent = s.bus.promptSpent
  attempt_free : s.bus.attempt = none → x.bus.attempt = none
  members_eq : x.peers.entries.toList.map Entry.member = s.peers.entries.toList.map Entry.member
  slots_eq : x.request.slots = s.request.slots
  sequence_eq : x.request.sequence = s.request.sequence

theorem HaltsAs.refl (s : State) : HaltsAs s s := ⟨rfl, rfl, rfl, id, rfl, rfl, rfl⟩

/-- An entry to HALTED from a part that stands as `s` does. -/
theorem HaltsAs.entersHalted {s x : State} (h : HaltsAs s x) (causes : List Cause) (first : FirstCause)
    (hst : s.ctrl.state ≠ .halted) :
    EntersHalted s (x.enterHalted causes first) causes first.cause first.origin := by
  have hst' : x.ctrl.state ≠ .halted := by rw [h.ctrl_eq]; exact hst
  have hctrl := x.enterHalted_ctrl causes first
  have hhalt := x.enterHalted_halt causes first
  have hbus := x.enterHalted_bus causes first
  have hmeas := x.enterHalted_meas causes first hst'
  have hengine := x.enterHalted_engine causes first hst'
  have hdrive := x.enterHalted_drive causes first hst'
  rw [if_neg hst'] at hbus
  have hzero : x.start.ceiling .halted = 0 := x.start.ceiling_of_not_moving rfl
  rw [hzero] at hengine
  rw [EntersHalted, hctrl, hhalt, hbus, hmeas, hdrive, hengine, h.ctrl_eq, h.halt_eq]
  refine ⟨rfl, rfl, rfl, rfl, rfl, rfl, rfl, rfl, rfl, rfl, ?_, rfl, rfl, rfl, rfl, rfl, rfl, rfl, rfl, rfl, rfl, rfl,
    fun hspent hattempt => Bus.askPrompt_stands _ _ _ (h.spent_eq.trans hspent) (h.attempt_free hattempt)⟩
  have := (x.engine.stateChange_commanded_le 0 none).2
  omega

/-- An event of causes taken by a part that stands as `s` does. -/
theorem HaltsAs.takesCauses {s x : State} (h : HaltsAs s x) {causes rest : List Cause} {first : Cause}
    (hinsert : Cause.insertAll causes [] = first :: rest) (origin : Nat) :
    TakesCauses s (x.takeCauses causes origin) causes first (x.originOf first origin) := by
  obtain ⟨-, -, hpeers, hrequest, -⟩ := x.takeCauses_frame causes origin
  rw [TakesCauses, hpeers, hrequest]
  refine ⟨fun hop => ?_, fun hst => ?_, fun hop hst => ?_, h.members_eq, h.slots_eq, h.sequence_eq⟩
  all_goals rw [State.takeCauses_eq origin hinsert, h.ctrl_eq]
  · rw [if_pos hop, h.ctrl_eq, h.halt_eq]
    exact ⟨rfl, rfl, rfl⟩
  · rw [if_neg (by simp [hst, StationState.isOperating]), if_pos hst]
    exact ⟨by rw [State.addCauses_ctrl, h.ctrl_eq]; exact hst, by rw [State.addCauses_halt, h.halt_eq],
      by rw [State.addCauses_halt, h.halt_eq]⟩
  · rw [if_neg (by simp [hop]), if_neg hst]
    exact h.entersHalted causes { cause := first, origin := x.originOf first origin } hst

/-- After an event of causes the station is halted, or in a state that takes no causes. -/
theorem State.takeCauses_resting {s : State} {causes : List Cause} (hne : causes ≠ []) (origin : Nat) :
    (s.takeCauses causes origin).ctrl.state.isResting = true := by
  rcases s.takeCauses_cases causes origin with ⟨hnil | hop, he⟩ | ⟨-, hst, he⟩ | ⟨-, -, -, -, hst, -⟩
  · exact absurd hnil hne
  · rw [he]
    cases hst : s.ctrl.state <;> simp_all [StationState.isOperating, StationState.isResting]
  · rw [he, State.addCauses_ctrl, hst]
    rfl
  · rw [hst]
    rfl

/-- The station is at rest after an event: what settling then brings in line is no part of what the event did. -/
theorem TakesCauses.settle {s t : State} {causes : List Cause} {first : Cause} {origin : Nat}
    (h : TakesCauses s t causes first origin) (hrest : t.ctrl.state.isResting = true) :
    TakesCauses s t.settle causes first origin := by
  obtain ⟨hop, hhalted, henters, hmembers, hslots, hsequence⟩ := h
  rw [State.settle_of_resting hrest]
  refine ⟨hop, hhalted, fun ho hst => ?_, hmembers, hslots, hsequence⟩
  obtain ⟨hstate, hcauses, hfirst, hcontact, hassembled, hfresh, -, hgrace, hdrive⟩ := henters ho hst
  obtain ⟨hbrake, happlied, hcommanded, hceiling, hcreep, hrelease, hdelay, hstall, hextreme, hc, hr, hu, -, -, hreport⟩ := hdrive
  refine ⟨hstate, hcauses, hfirst, hcontact, hassembled, hfresh, ?_, hgrace, hbrake, happlied, hcommanded, hceiling,
    hcreep, hrelease, hdelay, hstall, hextreme, hc, hr, hu, ?_, ?_, hreport⟩
  · simp [Controller.parkAfter, hstate]
  · simp [Controller.readyLampLit, hstate]
  · simp [StationState.faultLampLit, hstate]

/-- With an attempt in progress an event of causes says nothing of the bus interface. -/
theorem TakesCauses.withBus {s t : State} {causes : List Cause} {first : Cause} {origin : Nat}
    (h : TakesCauses s t causes first origin) (hattempt : s.bus.attempt ≠ none) (b : Bus) :
    TakesCauses s { t with bus := b } causes first origin := by
  obtain ⟨hop, hhalted, henters, htables⟩ := h
  refine ⟨hop, hhalted, fun ho hst => ?_, htables⟩
  obtain ⟨hstate, hcauses, hfirst, hcontact, hassembled, hfresh, hpark, hgrace, hbrake, happlied, hcommanded, hceiling,
    hcreep, hrelease, hdelay, hstall, hextreme, hc, hr, hu, hlamp, hfault, -⟩ := henters ho hst
  exact ⟨hstate, hcauses, hfirst, hcontact, hassembled, hfresh, hpark, hgrace, hbrake, happlied, hcommanded, hceiling,
    hcreep, hrelease, hdelay, hstall, hextreme, hc, hr, hu, hlamp, hfault, fun _ hnone => absurd hnone hattempt⟩

/-! ## What is handed on as a part settles -/

/-- `x` stands as `s` does for the engine, the drive unit and the counters; its state is that of `s`, or a transition's. -/
structure HandsFrom (s x : State) : Prop where
  start_eq : x.start = s.start
  engine_eq : x.engine = s.engine
  drive_eq : x.drive = { s.drive with stall := x.drive.stall, extreme := x.drive.extreme }
  contact_eq : x.meas.contact = s.meas.contact
  release_eq : x.meas.release = s.meas.release
  unseat_eq : x.meas.unseat = s.meas.unseat
  state : x.ctrl.state = s.ctrl.state ∨ x.ctrl.state.isResting = false ∧ x.ctrl.state ≠ .parked

theorem HandsFrom.refl (s : State) : HandsFrom s s := ⟨rfl, rfl, rfl, rfl, rfl, rfl, .inl rfl⟩

/-- A change of state leads to no resting state. -/
theorem HandsFrom.not_resting {s x : State} (h : HandsFrom s x) (hne : x.restsIn ≠ s.ctrl.state) :
    x.restsIn.isResting = false := by
  cases hr : x.restsIn.isResting with
  | false => rfl
  | true =>
    have hx := State.restsIn_resting hr
    rcases h.state with hs | ⟨hs, -⟩
    · exact absurd (hx.trans hs) hne
    · rw [hx, hs] at hr
      cases hr

/-- The applied output after a hand-over. -/
theorem Drive.handOver_applied (d : Drive) (dMin : Nat) (x : Int) (c : Nat) (dir : Direction) :
    (d.handOver dMin x c dir).applied = if d.brake = .released ∧ d.direction = dir then c else 0 := by
  unfold Drive.handOver
  by_cases hd : d.direction = dir <;> simp [hd]

/-- The brake rule at a change of state, HALTED and CONFIG_FAULT apart: brake, timers and creep reference. -/
theorem Drive.stateChange_brake (d : Drive) (now rt : Time) (x : Int) (old new : StationState)
    (hnew : new.isResting = false) :
    let d' := d.stateChange now rt x old new
    (new.isMoving = true → d'.creepReference = d.creepReference
      ∧ (d.brake = .set → d'.brake = .releasing ∧ d'.releaseTimer = some (now + rt) ∧ d'.setDelay = d.setDelay)
      ∧ (d.brake = .releasing → d'.brake = .releasing ∧ d'.releaseTimer = d.releaseTimer ∧ d'.setDelay = d.setDelay)
      ∧ (d.brake = .released → d'.brake = .released ∧ d'.releaseTimer = d.releaseTimer ∧ d'.setDelay = none))
    ∧ (new.isMoving = false → old.isMoving = true ∧ d.brake = .releasing →
      d'.brake = .set ∧ d'.releaseTimer = none ∧ d'.setDelay = none ∧ d'.creepReference = x)
    ∧ (new.isMoving = false → ¬(old.isMoving = true ∧ d.brake = .releasing) →
      d'.brake = d.brake ∧ d'.releaseTimer = d.releaseTimer ∧ d'.creepReference = d.creepReference
        ∧ d'.setDelay = if old.isMoving = true ∧ d.brake = .released then some (now + 100000) else d.setDelay) := by
  have hhalted : new ≠ .halted := by rintro rfl; cases hnew
  have hfault : new ≠ .configFault := by rintro rfl; cases hnew
  unfold Drive.stateChange
  simp only [hhalted, hfault, if_false]
  cases hm : new.isMoving <;> cases ho : old.isMoving <;> cases hb : d.brake <;>
    simp [Drive.setBrake, Timing.setDelay, hb]

/-- The applied output stands through the brake rule, but goes with a brake set, which had none. -/
theorem Drive.stateChange_applied (d : Drive) (now rt : Time) (x : Int) (old new : StationState)
    (h : d.brake ≠ .released → d.applied = 0) : (d.stateChange now rt x old new).applied = d.applied
      ∨ new.isResting = true := by
  by_cases hnew : new.isResting = true
  · exact .inr hnew
  refine .inl ?_
  have hhalted : new ≠ .halted := by rintro rfl; exact hnew rfl
  have hfault : new ≠ .configFault := by rintro rfl; exact hnew rfl
  unfold Drive.stateChange
  simp only [hhalted, hfault, if_false]
  cases hm : new.isMoving <;> cases ho : old.isMoving <;> cases hb : d.brake <;>
    simp_all [Drive.setBrake]

theorem HandsFrom.handsOn {s x : State} (h : HandsFrom s x) : HandsOn s (x.settleFrom s.ctrl.state) := by
  have hstate := x.settleFrom_state s.ctrl.state
  have hengine := x.settleFrom_engine s.ctrl.state
  have hdrive := x.settleFrom_drive s.ctrl.state
  have hmeas := x.settleFrom_meas s.ctrl.state
  have hjog := x.settleFrom_jogDirection s.ctrl.state
  have hnow := x.settleFrom_now s.ctrl.state
  refine ⟨fun he => ?same, fun hne => ?changed⟩
  case same =>
    have he' : x.restsIn = s.ctrl.state := hstate.symm.trans he
    rw [if_pos he'] at hengine hdrive hmeas
    rw [hengine, hdrive, hmeas]
    exact ⟨h.engine_eq, h.drive_eq, h.contact_eq, h.release_eq, h.unseat_eq⟩
  case changed =>
    have hne' : x.restsIn ≠ s.ctrl.state := fun e => hne (hstate.trans e)
    have hmoved := h.not_resting hne'
    rw [if_neg hne'] at hengine hdrive hmeas
    have hstroke : (x.settleFrom s.ctrl.state).meas.stroke = x.meas.stroke := (x.settleFrom_measured _).1
    obtain ⟨hcopy, hdirection, hbrake, hrelease, hdelay, hcreep, -, hnone⟩ := x.drive.handOver_spec x.start.dMin
      x.meas.stroke (x.settleFrom s.ctrl.state).engine.commanded (x.settleFrom s.ctrl.state).engine.direction
    have happlied := x.drive.handOver_applied x.start.dMin x.meas.stroke
      (x.settleFrom s.ctrl.state).engine.commanded (x.settleFrom s.ctrl.state).engine.direction
    generalize x.drive.handOver x.start.dMin x.meas.stroke (x.settleFrom s.ctrl.state).engine.commanded
      (x.settleFrom s.ctrl.state).engine.direction = d at *
    obtain ⟨hcopy', hdirection', -⟩ := d.stateChange_output x.now x.start.releaseTime x.meas.stroke s.ctrl.state x.restsIn
    have happlied' := (d.stateChange_applied x.now x.start.releaseTime x.meas.stroke s.ctrl.state x.restsIn
      (fun hb => hnone (hbrake ▸ hb))).resolve_right (by simp [hmoved])
    obtain ⟨hmoving, hset, hstay⟩ :=
      d.stateChange_brake x.now x.start.releaseTime x.meas.stroke s.ctrl.state x.restsIn hmoved
    have hb : x.drive.brake = s.drive.brake := by rw [h.drive_eq]
    have hd : x.drive.direction = s.drive.direction := by rw [h.drive_eq]
    have hrt : x.drive.releaseTimer = s.drive.releaseTimer := by rw [h.drive_eq]
    have hsd : x.drive.setDelay = s.drive.setDelay := by rw [h.drive_eq]
    have hcr : x.drive.creepReference = s.drive.creepReference := by rw [h.drive_eq]
    rw [hb] at hbrake
    rw [hrt] at hrelease
    rw [hsd] at hdelay
    rw [hcr] at hcreep
    rw [hbrake, hrelease, hdelay, hcreep] at hmoving hstay
    rw [hbrake] at hset
    have hdir : (x.settleFrom s.ctrl.state).engine.direction
        = (x.restsIn.motion x.ctrl.jogDirection).getD s.engine.direction := by rw [hengine, h.engine_eq]; rfl
    refine ⟨⟨?engine, ?copy, ?direction, ?applied⟩, ?brake, ?contact, ?release, ?unseat⟩
    case engine => rw [hstate, hengine, hjog, h.engine_eq, h.start_eq]; rfl
    case copy => rw [hdrive, hcopy', hcopy]
    case direction => rw [hdrive, hdirection', hdirection, hdir, hstate, hjog]
    case applied => rw [hdrive, happlied', happlied, hb, hd, hdir, hstate, hjog]
    case brake =>
      rw [BrakeFollows, hstate, hdrive, hstroke, hnow, ← h.start_eq]
      cases hm : x.restsIn.isMoving with
      | true => exact hmoving hm
      | false =>
        rw [if_neg Bool.false_ne_true]
        split
        · next hr => exact hset hm hr
        · next hr => exact hstay hm hr
    case contact =>
      rw [hstate, hmeas]
      simp only [Measurement.stateChange]
      split <;> rfl
    case release =>
      rw [hstate, hmeas]
      simp only [Measurement.stateChange]
      split <;> rfl
    case unseat =>
      rw [hstate, hmeas]
      simp only [Measurement.stateChange]
      split
      · split
        · exact h.unseat_eq
        · rfl
      · rfl

end Sys2Proof.Machine
end

section
/-! What the transitions that follow a command touch, and the ways into ASSEMBLING, out of JOG and out of HALTED. -/

namespace Sys2Proof.Machine

/-! ## A prompt report asked for -/

/-- The report place, the timer and the pending request after a prompt report asked for with the restart (R160, R177). -/
theorem Bus.askPrompt_restart (b : Bus) (now : Time) (p : PeriodClass) :
    let b' := b.askPrompt now p true
    (b.underAttempt .report = true → b'.report = b.report ∧ b'.reportTimer = b.reportTimer
        ∧ b'.pendingReport = some { prompt := true, restart := true })
      ∧ (b.underAttempt .report = false → b'.pendingReport = b.pendingReport
        ∧ b'.report = (match b.report with
            | some x => some { x with prompt := x.prompt || !b.promptSpent }
            | none => if b.promptSpent then none else some { prompt := true, entered := now, attempts := 0 })
        ∧ b'.reportTimer = (if b.promptSpent = true ∧ b.report = none then b.reportTimer
            else some { due := now + p.interval, interval := p })) := by
  have hwait (b1 b2 : Bus) : (b1.beginWait b2 now).pendingReport = b1.pendingReport
      ∧ (b1.beginWait b2 now).report = b1.report := by unfold Bus.beginWait; split <;> exact ⟨rfl, rfl⟩
  refine ⟨fun hu => ?_, fun hu => ?_⟩
  · unfold Bus.askPrompt
    rw [if_pos hu]
    exact ⟨rfl, rfl, rfl⟩
  · unfold Bus.askPrompt Bus.judgePrompt Bus.restartTimer
    rw [if_neg (by simp [hu])]
    cases hs : b.promptSpent <;> cases hr : b.report <;> simp [hwait, hr]

theorem PeriodClass.interval_eq (p : PeriodClass) : p.interval = if p = .fast then 20000 else 500000 := by
  cases p <;> rfl

/-! ## The transitions that follow -/

/-- `x` is `s` with a command's own writes made, of which the transitions that follow it are judged: the tables of the
group, the line, the FAULT lamp and the state controller's state and flag aside, it stands as `s` does. -/
structure MovesFrom (s x : State) : Prop where
  start_eq : x.start = s.start
  meas_eq : x.meas = s.meas
  engine_eq : x.engine = s.engine
  drive_eq : x.drive = s.drive
  clash_eq : x.peers.clashHold = s.peers.clashHold
  halt_eq : x.halt = { s.halt with faultLamp := x.halt.faultLamp }
  contact_eq : x.ctrl.contact = s.ctrl.contact
  attempt_eq : x.bus.attempt = s.bus.attempt
  spent_eq : x.bus.promptSpent = s.bus.promptSpent
  offset_eq : x.bus.retryOffset = s.bus.retryOffset
  report_eq : x.bus.report = s.bus.report
  timer_eq : x.bus.reportTimer = s.bus.reportTimer
  pending_eq : x.bus.pendingReport = s.bus.pendingReport
  state : x.ctrl.state = s.ctrl.state ∨ x.ctrl.state.isResting = false ∧ x.ctrl.state ≠ .parked

theorem MovesFrom.handsFrom {s x : State} (h : MovesFrom s x) : HandsFrom s x where
  start_eq := h.start_eq
  engine_eq := h.engine_eq
  drive_eq := by rw [h.drive_eq]
  contact_eq := by rw [h.meas_eq]
  release_eq := by rw [h.meas_eq]
  unseat_eq := by rw [h.meas_eq]
  state := h.state

/-- A change of state asks for a prompt report at a wake alone. -/
theorem MovesFrom.asks {s x : State} (h : MovesFrom s x) (hne : x.restsIn ≠ s.ctrl.state) :
    asksPrompt s.ctrl.state x.restsIn = (s.ctrl.state == .parked) ∧ (x.restsIn == .parked) = false := by
  have hmoved := h.handsFrom.not_resting hne
  have hhalted : (x.restsIn == .halted) = false := by
    rw [beq_eq_false_iff_ne]
    intro e
    rw [e] at hmoved
    cases hmoved
  have hparked : (x.restsIn == .parked) = false := by
    rw [beq_eq_false_iff_ne]
    intro e
    have hx : x.ctrl.state = .parked := by
      revert e
      unfold State.restsIn GroupCommand.leadsTo
      cases x.ctrl.state <;> dsimp only <;> repeat' split
      all_goals simp
    rcases h.state with hs | ⟨-, hs⟩
    · exact hne (e.trans (hx.symm.trans hs))
    · exact hs hx
  exact ⟨by simp [asksPrompt, hhalted, hparked], hparked⟩

theorem MovesFrom.onlyMotionFollows {s x : State} (h : MovesFrom s x) :
    OnlyMotionFollows s (x.settleFrom s.ctrl.state) := by
  have hstate := x.settleFrom_state s.ctrl.state
  have hbus := x.settleFrom_bus s.ctrl.state
  have hmeas : (x.settleFrom s.ctrl.state).meas = { s.meas with
      contact := (x.settleFrom s.ctrl.state).meas.contact, release := (x.settleFrom s.ctrl.state).meas.release
      unseat := (x.settleFrom s.ctrl.state).meas.unseat } := by
    rw [x.settleFrom_meas, ← h.meas_eq]
    split <;> rfl
  have hclash : (x.settleFrom s.ctrl.state).peers.clashHold = s.peers.clashHold := by
    rw [x.settleFrom_peers]
    exact h.clash_eq
  have htimer : (x.settleFrom s.ctrl.state).engine.controlTimer = s.engine.controlTimer := by
    rw [x.settleFrom_engine, ← h.engine_eq]
    split <;> rfl
  have hcommanded : (x.settleFrom s.ctrl.state).engine.commanded ≤ s.engine.commanded :=
    h.engine_eq ▸ x.settleFrom_commanded_le _
  have hframe : (x.settleFrom s.ctrl.state).bus.attempt = s.bus.attempt
      ∧ (x.settleFrom s.ctrl.state).bus.promptSpent = s.bus.promptSpent
      ∧ (x.settleFrom s.ctrl.state).bus.retryOffset = s.bus.retryOffset := by
    rw [hbus]
    split
    · obtain ⟨ha, ho, -, hs, -⟩ := x.bus.askPrompt_frame x.now x.restsIn.period (s.ctrl.state == .parked || x.restsIn == .parked)
      exact ⟨ha.trans h.attempt_eq, hs.trans h.spent_eq, ho.trans h.offset_eq⟩
    · exact ⟨h.attempt_eq, h.spent_eq, h.offset_eq⟩
  refine ⟨(x.settleFrom_start _).trans h.start_eq, hmeas, hclash, ?halt, (x.settleFrom_contact _).trans h.contact_eq, htimer,
    hcommanded, hframe.1, hframe.2.1, hframe.2.2, h.handsFrom.handsOn, fun hparked hleft => ?wake, fun hstays => ?stays⟩
  case halt => rw [x.settleFrom_halt_eq, h.halt_eq]
  case wake =>
    rw [hstate] at hleft
    have hne : x.restsIn ≠ s.ctrl.state := fun e => hleft (e.trans hparked)
    obtain ⟨hasks, -⟩ := h.asks hne
    have hfast : x.restsIn.period = .fast := by
      have hmoved := h.handsFrom.not_resting hne
      cases hr : x.restsIn <;> simp_all [StationState.period, StationState.isResting]
    have hrestart : (s.ctrl.state == .parked || x.restsIn == .parked) = true := by rw [hparked]; rfl
    rw [if_pos ⟨hne, by rw [hasks, hparked]; rfl⟩, hrestart, hfast] at hbus
    have hu : x.bus.underAttempt .report = s.bus.underAttempt .report := by simp only [Bus.underAttempt, h.attempt_eq]
    have := x.bus.askPrompt_restart x.now .fast
    rw [PeriodClass.interval_eq, hu, h.report_eq, h.timer_eq, h.pending_eq, h.spent_eq] at this
    rw [AsksPromptReport, hbus, x.settleFrom_now]
    exact this
  case stays =>
    have hkept : (x.settleFrom s.ctrl.state).bus = x.bus := by
      rw [hbus, if_neg]
      rintro ⟨hne, hasks⟩
      rw [(h.asks hne).1] at hasks
      have hparked : s.ctrl.state = .parked := by simpa using hasks
      exact hstays.elim (fun e => e hparked) fun e => hne (hstate.symm.trans (e.trans hparked.symm))
    rw [hkept]
    exact ⟨h.report_eq, h.timer_eq, h.pending_eq⟩

/-! ## Into ASSEMBLING -/

/-- A part that settles after a step of the chain settles as one that had not taken it. -/
theorem State.chainStep_settleFrom (s : State) (old : StationState) :
    s.chainStep.settleFrom old = s.settleFrom old := by
  have hchain : s.chainStep.chain = s.chain := s.chain_eq_rested ▸ s.comesTo_rested.1 ▸ by
    have hrest : s.chain.chainStep = s.chain := by rw [s.chain_eq_rested]; exact s.comesTo_rested.2
    exact hrest
  rw [State.settleFrom, State.settleFrom, hchain]

/-- READY entered, tested, settles as READY does. -/
theorem State.enterReady_settleFrom (s : State) (old : StationState) :
    s.enterReady.settleFrom old = (s.withState .ready).settleFrom old := by
  unfold State.enterReady
  split
  · rfl
  · next hno =>
    have hstep : (s.withState .ready).chainStep = s.enterAssembling := by
      rw [State.chainStep_ready rfl, State.withState_assemblyHolds, if_neg hno]
      rfl
    rw [← hstep, State.chainStep_settleFrom]

/-- What SettlesFrom says where an assembly is lost in READY. -/
theorem SettlesFrom.entersAssembling {s t : State} (h : SettlesFrom s t) (hst : s.ctrl.state = .ready)
    (hholds : s.assemblyHolds = false) : EntersAssembling s t := by
  obtain ⟨hctrl, hentries, hrequest, -⟩ := h
  have hloses : s.losesAssembly = true := by simp [State.losesAssembly, hholds, hst]
  have hcompletes : s.completesAssembly = s.groupAssembled := by simp [State.completesAssembly, hloses, hst]
  have hrests : s.restsIn = if s.groupAssembled then .ready else .assembling := by
    simp only [State.restsIn, hst, hloses, hcompletes, if_true]
  rw [if_pos hloses] at hrequest
  rw [hcompletes, if_pos hloses] at hentries
  rw [hcompletes, hloses, hrests] at hctrl
  have hstate := congrArg Controller.state hctrl
  have hassembled : t.ctrl.assembled = s.groupAssembled := by simpa using congrArg Controller.assembled hctrl
  have hcontact := congrArg Controller.contact hctrl
  refine ⟨hstate, hassembled, ?lamp, congrArg Controller.fresh hctrl, hcontact, ?entries, hrequest⟩
  case lamp =>
    have hlamp := congrArg Controller.readyLamp hctrl
    dsimp only at hlamp hstate
    rw [hlamp, hassembled, hstate]
    cases s.groupAssembled <;> rfl
  case entries =>
    rw [hentries]
    cases s.groupAssembled <;> simp

/-- ASSEMBLING entered and settled. -/
theorem State.entersAssembling (s : State) (old : StationState) :
    EntersAssembling s (s.enterAssembling.settleFrom old) := by
  have h := s.enterAssembling.settlesFrom_settleFrom old
  generalize s.enterAssembling.settleFrom old = t at h
  obtain ⟨hctrl, hentries, hrequest, -⟩ := h
  have hgroup := s.enterAssembling_groupAssembled
  have hloses : s.enterAssembling.losesAssembly = false := by simp [State.losesAssembly]
  have hcompletes : s.enterAssembling.completesAssembly = s.groupAssembled := by
    simp [State.completesAssembly, hgroup]
  have hcommand : s.enterAssembling.command = .none := s.clearFlag_command
  have hrests : s.enterAssembling.restsIn = if s.groupAssembled then .ready else .assembling := by
    show (if s.enterAssembling.completesAssembly then
      (if s.enterAssembling.command = .raise then StationState.seating else .ready) else .assembling) = _
    rw [hcompletes, hcommand]
    rfl
  rw [hloses] at hrequest
  rw [hcompletes, hloses] at hentries
  rw [hcompletes, hloses, hrests] at hctrl
  have hstate := congrArg Controller.state hctrl
  have hassembled : t.ctrl.assembled = s.groupAssembled := by simpa using congrArg Controller.assembled hctrl
  have hcontact := congrArg Controller.contact hctrl
  refine ⟨hstate, hassembled, ?lamp, congrArg Controller.fresh hctrl, hcontact, ?entries, hrequest⟩
  case lamp =>
    have hlamp := congrArg Controller.readyLamp hctrl
    dsimp only at hlamp hstate
    rw [hlamp, hassembled, hstate]
    cases s.groupAssembled <;> rfl
  case entries =>
    have hlist : s.enterAssembling.peers.entries.toList = s.peers.entries.toList.map Entry.unmark := Table.toList_map _ _
    rw [hentries, hlist]
    cases s.groupAssembled
    · simp [Entry.unmark]
    · simp only [if_true, List.map_map, Bool.true_and]
      rfl

/-! ## JOG without its flag, and out of JOG -/

/-- JOG loses its flag: as an assembly loss signalled, or as the assembly does not hold (R19). -/
theorem State.losesFlagInJog {s : State} (hst : s.ctrl.state = .jog) : LosesFlagInJog s (s.clearFlag.settleFrom .jog) := by
  have hst' : s.clearFlag.ctrl.state = .jog := hst
  have hrest : s.clearFlag.chainStep = s.clearFlag := by
    rw [State.chainStep_jog hst']
    simp
  rw [State.settleFrom, State.chain_of_rest hrest, State.handOn_of_same hst']
  exact ⟨hst, rfl, rfl, rfl, s.peers.memberCount_unmark, rfl⟩

theorem SettlesFrom.losesFlagInJog {s t : State} (h : SettlesFrom s t) (hst : s.ctrl.state = .jog)
    (hset : s.ctrl.assembled = true) (hholds : s.assemblyHolds = false) : LosesFlagInJog s t := by
  obtain ⟨hctrl, hentries, hrequest, -⟩ := h
  have hloses : s.losesAssembly = true := by simp [State.losesAssembly, hholds, hst, hset]
  have hcompletes : s.completesAssembly = false := by simp [State.completesAssembly, hst]
  have hrests : s.restsIn = .jog := by simp only [State.restsIn, hst]
  rw [if_pos hloses] at hrequest
  rw [hcompletes, if_pos hloses, if_neg Bool.false_ne_true] at hentries
  rw [hcompletes, hloses, hrests] at hctrl
  have hassembled : t.ctrl.assembled = false := by simpa using congrArg Controller.assembled hctrl
  have hdirection := congrArg Controller.jogDirection hctrl
  refine ⟨congrArg Controller.state hctrl, hdirection, hassembled, ?_, ?_, hrequest⟩
  · rw [congrArg Controller.readyLamp hctrl]
    simp [hassembled]
  · simp [PeerTable.memberCount, hentries]

theorem MovesFrom.refl (s : State) : MovesFrom s s :=
  ⟨rfl, rfl, rfl, rfl, rfl, rfl, rfl, rfl, rfl, rfl, rfl, rfl, rfl, .inl rfl⟩

theorem MovesFrom.trans {s x y : State} (h : MovesFrom s x) (h' : MovesFrom x y) : MovesFrom s y where
  start_eq := h'.start_eq.trans h.start_eq
  meas_eq := h'.meas_eq.trans h.meas_eq
  engine_eq := h'.engine_eq.trans h.engine_eq
  drive_eq := h'.drive_eq.trans h.drive_eq
  clash_eq := h'.clash_eq.trans h.clash_eq
  halt_eq := h'.halt_eq.trans (by rw [h.halt_eq])
  contact_eq := h'.contact_eq.trans h.contact_eq
  attempt_eq := h'.attempt_eq.trans h.attempt_eq
  spent_eq := h'.spent_eq.trans h.spent_eq
  offset_eq := h'.offset_eq.trans h.offset_eq
  report_eq := h'.report_eq.trans h.report_eq
  timer_eq := h'.timer_eq.trans h.timer_eq
  pending_eq := h'.pending_eq.trans h.pending_eq
  state := by
    rcases h'.state with hs | hs
    · rw [hs]
      exact h.state
    · exact .inr hs

/-- Leaving JOG is settling in READY or ASSEMBLING, entered from JOG. -/
theorem State.leaveJog_eq (x : State) :
    ∃ y : State, x.leaveJog = y.settleFrom .jog ∧ MovesFrom x y ∧ (y.ctrl.state = .ready ∨ y.ctrl.state = .assembling)
      ∧ y.bus = x.bus := by
  unfold State.leaveJog State.enterReady
  refine ⟨_, rfl, ?_⟩
  repeat' split
  all_goals exact ⟨{ MovesFrom.refl x with state := .inr ⟨rfl, by simp⟩ }, by simp, rfl⟩

/-- A station that has left JOG rests in ASSEMBLING, READY or SEATING. -/
theorem State.restsIn_left_jog {y : State} (h : y.ctrl.state = .ready ∨ y.ctrl.state = .assembling)
    (hne : y.restsIn ≠ .seating) : y.restsIn.isMoving = false ∧ y.restsIn ≠ .jog := by
  revert hne
  unfold State.restsIn
  rcases h with e | e <;> rw [e] <;> dsimp only <;> repeat' split
  all_goals simp [StationState.isMoving]

/-- The way out of JOG. -/
theorem State.leavesJog {x : State} (hst : x.ctrl.state = .jog) : LeavesJog x x.leaveJog := by
  refine ⟨fun hset => ?_, fun hclear => ?_, fun hne => ?_⟩
  · rw [State.leaveJog, if_pos hset, State.enterReady_settleFrom]
    exact State.settlesFrom_settleFrom _ _
  · rw [State.leaveJog, if_neg (by simp [hclear])]
    exact x.entersAssembling .jog
  · obtain ⟨y, hy, hfrom, hyst, -⟩ := x.leaveJog_eq
    rw [hy, y.settleFrom_state] at hne
    obtain ⟨hmoving, hleft⟩ := State.restsIn_left_jog hyst hne
    obtain ⟨-, hchanged⟩ := hfrom.handsFrom.handsOn
    rw [hst, y.settleFrom_state] at hchanged
    obtain ⟨⟨hengine, -, -, happlied⟩, hbrake, -⟩ := hchanged hleft
    have hcommanded : (y.settleFrom .jog).engine.commanded = 0 := by
      have hzero := x.start.ceiling_of_not_moving hmoving
      rw [hengine]
      dsimp only
      rw [hzero]
      split <;> simp
    have hstroke : (y.settleFrom .jog).meas.stroke = x.meas.stroke :=
      (y.settleFrom_measured _).1.trans (by rw [hfrom.meas_eq])
    rw [BrakeFollows, y.settleFrom_state, hmoving, if_neg Bool.false_ne_true] at hbrake
    have hjogs : x.ctrl.state.isMoving = true := by rw [hst]; rfl
    rw [hy]
    refine ⟨hcommanded, ?_, fun hr => ?_, fun hr => ?_⟩
    · rw [happlied, hcommanded]
      split <;> rfl
    · rw [if_neg (by simp [hr])] at hbrake
      obtain ⟨hb, -, -, hd⟩ := hbrake
      rw [if_pos ⟨hjogs, hr⟩] at hd
      exact ⟨hb.trans hr, hd⟩
    · rw [if_pos ⟨hjogs, hr⟩] at hbrake
      obtain ⟨hb, -, -, hc⟩ := hbrake
      exact ⟨hb, hc.trans hstroke⟩

theorem MovesFrom.leaveJog {s x : State} (h : MovesFrom s x) (hst : s.ctrl.state = .jog) :
    OnlyMotionFollows s x.leaveJog ∧ x.leaveJog.bus = x.bus := by
  obtain ⟨y, hy, hfrom, hyst, hbus⟩ := x.leaveJog_eq
  have hfollows := (h.trans hfrom).onlyMotionFollows
  rw [hst] at hfollows
  rw [hy]
  refine ⟨hfollows, ?_⟩
  rw [y.settleFrom_bus, if_neg, hbus]
  rintro ⟨hne, hasks⟩
  have := (h.trans hfrom).asks (by rw [hst]; exact hne)
  rw [hst, hasks] at this
  simp at this

/-! ## Out of HALTED -/

/-- The way out of HALTED by a successful clear. -/
theorem State.returnsFromHalt (s : State) : ReturnsFromHalt s (s.returnFromHalt.settleFrom .halted) := by
  unfold State.returnFromHalt
  refine ⟨fun hsome => ?_, fun hnone hset => ?_, fun hnone hclear => ?_⟩
  · rw [if_pos hsome]
    exact State.settlesFrom_settleFrom _ _
  · rw [if_neg (by simp [hnone]), if_pos hset, State.enterReady_settleFrom]
    exact State.settlesFrom_settleFrom _ _
  · rw [if_neg (by simp [hnone]), if_neg (by simp [hclear])]
    exact s.entersAssembling .halted

/-! ## What a command answers while no reset is held -/

section Answers

variable {s : State} {P : State → Prop}

theorem State.onEvent_next {m : Time} {f : State → State} (hrun : s.start.resetHeld = false) (h : P (f (s.tick m))) :
    ∃ t, s.onEvent m f = .next t ∧ P t := ⟨_, s.onEvent_running m f hrun, h⟩

theorem State.onFilter_next {m filter : Time} {since : Option Time} {f : State → State}
    (hrun : s.start.resetHeld = false) (h : P (f (s.tick (max m (since.getD 0 + filter))))) :
    ∃ t, s.onFilter m since filter f = .next t ∧ P t := ⟨_, s.onFilter_running m since filter f hrun, h⟩

theorem State.onTimer_next {timer : Option Time} {due : Time} {f : Time → State → State}
    (hrun : s.start.resetHeld = false) (hdue : timer = some due) (h : P (f due (s.tick due))) :
    ∃ t, s.onTimer timer f = .next t ∧ P t := ⟨_, hdue ▸ s.onTimer_running due f hrun, h⟩

theorem State.onTimer_eq {timer : Option Time} {due : Time} {f : Time → State → State}
    (hrun : s.start.resetHeld = false) (hdue : timer = some due) : s.onTimer timer f = .next (f due (s.tick due)) :=
  hdue ▸ s.onTimer_running due f hrun

end Answers

end Sys2Proof.Machine
end

section
/-! The resets, the hold-off, the brake timers, the retry offset and what is seen on the line. -/

namespace Sys2Proof.Machine

/-- Settles O17: by the reset values of each block; the sources seen are told apart by the source. -/
theorem resetGivesEveryBlockItsResetValues : Obligations.ResetGivesEveryBlockItsResetValues := by
  intro s m r i
  have hentries : PeerTable.held.entries.toList = List.replicate 24 Entry.empty := rfl
  refine ⟨⟨_, rfl, ?onset⟩, ⟨_, rfl, ?fin⟩⟩
  case onset =>
    unfold State.resetOnset
    cases hheld : s.start.resetHeld with
    | true =>
      rw [State.tick_start, hheld, if_pos rfl]
      exact ⟨rfl, rfl, fun _ => rfl, fun h => Bool.noConfusion h⟩
    | false =>
      rw [State.tick_start, hheld, if_neg Bool.false_ne_true]
      refine ⟨rfl, rfl, fun h => Bool.noConfusion h, fun _ => ⟨?_, rfl, rfl, rfl, rfl, rfl, rfl, rfl, hentries, rfl, ?_,
        fun x => ⟨rfl, rfl⟩⟩⟩
      · cases r <;> rfl
      · cases r <;> rfl
  case fin =>
    cases hheld : s.start.resetHeld with
    | true =>
      rw [if_pos rfl]
      exact ⟨rfl, fun h => Bool.noConfusion h, fun _ => ⟨rfl, rfl, rfl, rfl, rfl, rfl, hentries, rfl, rfl, rfl, rfl, rfl⟩⟩
    | false =>
      rw [if_neg Bool.false_ne_true]
      exact ⟨rfl, fun _ => rfl, fun h => Bool.noConfusion h⟩

/-! ## The hold-off and the option port -/

theorem strapNumber_eq_weights (straps : BitVec 5) :
    strapNumber straps = (straps.getLsbD 0).toNat + 2 * (straps.getLsbD 1).toNat + 4 * (straps.getLsbD 2).toNat
      + 8 * (straps.getLsbD 3).toNat + 16 * (straps.getLsbD 4).toNat := by
  revert straps
  decide

/-- The clock line through an option read that begins at a moment: 296 periods of 4 µs. -/
theorem StartUnit.clockPeriod_reading {u : StartUnit} {began : Time} (h : u.optionRead = some (began + 1184))
    {k j : Nat} (hk : k < 296) (hj : j < 4) : u.clockPeriod (began + 4 * k + j) = some k := by
  unfold StartUnit.clockPeriod Timing.optionRead Timing.optionClock
  rw [h, Option.bind_some, if_pos (by unfold Time at *; omega)]
  congr 1
  unfold Time at *
  omega

theorem StartUnit.clockPeriod_over {u : StartUnit} {due : Time} (h : u.optionRead = some due) :
    u.clockPeriod due = none := by
  unfold StartUnit.clockPeriod
  rw [h, Option.bind_some, if_neg fun hin => lt_irrefl _ hin.2]

/-- The sixteen bits of the command 03h and of the address 00h, the most significant first. -/
theorem optionRequest_get (k : Nat) :
    optionRequest[k]? = if k < 16 then some (decide (k = 6 ∨ k = 7)) else none := by
  have hbits : ∀ k < 16, optionRequest[k]? = some (decide (k = 6 ∨ k = 7)) := by decide
  split
  · next hk => exact hbits k hk
  · next hk => exact List.getElem?_eq_none (Nat.le_of_not_lt hk)

/-- Settles O18: the weights of the straps are the bits of their number; the port's lines by the 4 µs periods of the read. -/
theorem holdOffEndReadsTheStraps : Obligations.HoldOffEndReadsTheStraps := by
  intro s due straps hrun hdue
  unfold exec execHoldOffExpiry
  refine State.onTimer_next hrun hdue ⟨?_, rfl, ?_, ?_⟩
  · rw [← strapNumber_eq_weights]
    rfl
  · exact StartUnit.clockPeriod_over rfl
  · intro k hk j hj
    have hperiod := StartUnit.clockPeriod_reading (u := { s.start with
      holdOff := none, strapReading := some (strapNumber straps), optionRead := some (max s.now due + 1184) })
      (began := max s.now due) rfl (List.mem_range.1 hk) (List.mem_range.1 hj)
    refine ⟨hperiod, ?_⟩
    exact (congrArg (fun x => Option.bind x fun k => optionRequest[k]?) hperiod).trans (optionRequest_get k)

/-- Settles O34: the two timers' writes. -/
theorem brakeTimersReleaseAndSet : Obligations.BrakeTimersReleaseAndSet := by
  intro s due hrun
  unfold exec execReleaseTimerExpiry execSetDelayExpiry
  exact ⟨fun hdue => State.onTimer_eq hrun hdue, fun hdue => State.onTimer_eq hrun hdue⟩

/-! ## The retry offset -/

/-- Equal offsets at one attempt count show equal digits in its place: the addend is common, and a digit is below 16. -/
theorem digit_eq_of_retryOffset_eq {u v a : Nat} (h : retryOffset u a = retryOffset v a) :
    u / 16 ^ ((a - 1) % 4) % 16 = v / 16 ^ ((a - 1) % 4) % 16 := by
  unfold retryOffset at h
  generalize u / 16 ^ ((a - 1) % 4) = x at *
  generalize v / 16 ^ ((a - 1) % 4) = y at *
  omega

/-- Settles O58: four consecutive counts show every digit, so equal offsets at all of them make the numbers equal. -/
theorem fourRetriesSeparateTwoUnitNumbers : Obligations.FourRetriesSeparateTwoUnitNumbers := by
  intro u v a hu hv hne ha
  by_contra hsame
  push Not at hsame
  obtain ⟨h0, h1, h2, h3⟩ := hsame
  have hoffset : ∀ i < 4, retryOffset u (a + i) = retryOffset v (a + i) := fun i hi => by
    interval_cases i
    · exact h0
    · exact h1
    · exact h2
    · exact h3
  have hdigit : ∀ k < 4, u / 16 ^ k % 16 = v / 16 ^ k % 16 := fun k hk => by
    obtain ⟨i, hi, hplace⟩ : ∃ i < 4, (a + i - 1) % 4 = k := ⟨(k + 4 - (a - 1) % 4) % 4, by omega, by omega⟩
    have := digit_eq_of_retryOffset_eq (hoffset i hi)
    rwa [hplace] at this
  have hd0 := hdigit 0 (by omega)
  have hd1 := hdigit 1 (by omega)
  have hd2 := hdigit 2 (by omega)
  have hd3 := hdigit 3 (by omega)
  norm_num at hd0 hd1 hd2 hd3
  omega

/-! ## What is seen on the line -/

/-- Settles O60: the receiver by the character read, and the idle measure by its stop bit. -/
theorem lineEventsTouchTheLinePartAlone : Obligations.LineEventsTouchTheLinePartAlone := by
  intro s m levels held why hrun
  unfold exec execStartBitSeen execReceivedFrameDiscarded
  refine ⟨State.onEvent_next hrun ⟨rfl, ?_, ?_, ?_, ?_, ?_, ?_⟩, State.onEvent_next hrun ⟨rfl, ?_⟩⟩
  · intro hstop
    simp [Bus.startBit, readCharacter_some _ hstop, Timing.character]
  · intro hstop
    have hnone := readCharacter_framingError levels (by simpa using hstop)
    simp [Bus.startBit, Bus.receiverAt, hnone, Timing.character]
  · intro hstop htaking hbefore
    have : (s.tick m).bus.receiver = .takingFrame := htaking
    simp only [Bus.startBit, Bus.receiverAt, readCharacter_some _ hstop]
    exact if_pos ⟨htaking, hbefore⟩
  · intro hstop hidle hA5
    simp only [Bus.startBit, Bus.receiverAt, readCharacter_some _ hstop]
    split
    · rfl
    · exact if_pos ⟨hidle, hA5⟩
  · intro hstop hidle hA5 hnot
    simp only [Bus.startBit, Bus.receiverAt, readCharacter_some _ hstop]
    rw [if_neg, if_neg]
    · exact fun h => hA5 h.2
    · rintro ⟨htaking, hbefore⟩
      rcases hnot with hnot | ⟨hattempt, hlate⟩
      · exact hnot htaking
      · rcases hbefore with hbefore | hbefore
        · rw [State.tick_bus, hattempt] at hbefore
          cases hbefore
        · exact absurd hlate (Nat.not_lt.2 hbefore)
  · intro hstop hearly hnot
    simp only [Bus.startBit, Bus.receiverAt, readCharacter_some _ hstop]
    rw [if_neg fun h => hnot h.1, if_neg fun h => absurd hearly (Nat.not_lt.2 h.1)]
  · cases why <;> rfl

end Sys2Proof.Machine
end

section
/-! The drive supply and the e-stop channels. -/

namespace Sys2Proof.Machine

/-! ## The drive supply -/

theorem StartUnit.policyIs_iff {u : StartUnit} {p : SupplyPolicy} :
    u.policyIs p = true ↔ u.config.map Options.policy = some p := by
  unfold StartUnit.policyIs
  cases u.config <;> simp

/-! The onset by the policy in force (R88, R195). -/

theorem State.supplyOnset_none {s : State} (h : s.start.config.map Options.policy = none) : s.supplyOnset = s := by
  have hnone : ∀ p, s.start.policyIs p = false := fun p => by
    rw [Bool.eq_false_iff, ne_eq, StartUnit.policyIs_iff, h]
    simp
  simp [State.supplyOnset, hnone]

theorem State.supplyOnset_halt {s : State} (h : s.start.config.map Options.policy = some .halt) :
    s.supplyOnset = s.takeCauses [.supplyLow] := by
  have hderate : s.start.policyIs .derate = false := by
    rw [Bool.eq_false_iff, ne_eq, StartUnit.policyIs_iff, h]
    simp
  simp [State.supplyOnset, hderate, StartUnit.policyIs_iff.2 h]

theorem State.supplyOnset_derate {s : State} (h : s.start.config.map Options.policy = some .derate) :
    s.supplyOnset = if s.engine.derateAtOnce.commanded < s.engine.commanded
      then { s with engine := s.engine.derateAtOnce }.handOver else { s with engine := s.engine.derateAtOnce } := by
  simp [State.supplyOnset, StartUnit.policyIs_iff.2 h]

/-- The part with a filtered change of the supply-low indication taken at a moment (R194). -/
def State.supplied (s : State) (low : Bool) (moment : Time) : State :=
  { s.tick moment with start := s.start.setSupply low (max s.now moment) }

theorem execSupplyLowChange_eq {s : State} {m : Time} {low : Bool} (hrun : s.start.resetHeld = false)
    (hlow : s.start.supplyLow = !low) :
    execSupplyLowChange m low s = .next (
      let x := s.supplied low (max m (s.start.supplyFilterFrom.getD 0 + 50000))
      if low then x.supplyOnset else x) := by
  rw [execSupplyLowChange, if_neg (by rw [hlow]; cases low <;> simp), State.onFilter_running _ _ _ _ _ hrun]
  rfl

/-- Settles O22: the filtered change by its direction, and the onset by the policy in force. -/
theorem supplyLowActsByPolicy : Obligations.SupplyLowActsByPolicy := by
  intro s m low hrun hlow
  refine ⟨_, execSupplyLowChange_eq hrun hlow, ?_⟩
  cases low with
  | false =>
    exact ⟨rfl, rfl, rfl, rfl, fun _ => rfl, fun h => Bool.noConfusion h, fun h => Bool.noConfusion h,
      fun h => Bool.noConfusion h⟩
  | true =>
    generalize max m (s.start.supplyFilterFrom.getD 0 + 50000) = moment
    dsimp only
    rw [if_pos rfl]
    have hpolicies : (s.supplied true moment).start.config.map Options.policy = s.start.config.map Options.policy := rfl
    cases hpolicy : s.start.config.map Options.policy with
    | none =>
      rw [State.supplyOnset_none (hpolicies.trans hpolicy)]
      exact ⟨rfl, rfl, rfl, rfl, fun _ => rfl, fun _ _ => rfl, nofun, nofun⟩
    | some p =>
      have hsome : s.start.config ≠ none := by
        rintro he
        rw [he] at hpolicy
        cases hpolicy
      cases p with
      | halt =>
        rw [State.supplyOnset_halt (hpolicies.trans hpolicy)]
        have hhalts : HaltsAs s (s.supplied true moment) := ⟨rfl, rfl, rfl, id, rfl, rfl, rfl⟩
        obtain ⟨hn, hs, hp, hr, -, -, -, -, hload⟩ := (s.supplied true moment).takeCauses_frame [.supplyLow] 0
        exact ⟨hn, hs.trans (by rw [hn]; rfl), hp, hr, nofun, fun _ h => absurd h hsome, nofun,
          fun _ _ => ⟨hhalts.takesCauses rfl 0, hload⟩⟩
      | derate =>
        rw [State.supplyOnset_derate (hpolicies.trans hpolicy)]
        have hle : s.engine.derateAtOnce.commanded ≤ s.engine.commanded := Nat.min_le_left _ _
        split
        · obtain ⟨hcopy, -, hbrake, -, -, -, happlied, -⟩ := s.drive.handOver_spec s.start.dMin s.meas.stroke
            s.engine.derateAtOnce.commanded s.engine.derateAtOnce.direction
          exact ⟨rfl, rfl, rfl, rfl, nofun, fun _ h => absurd h hsome,
            fun _ _ => ⟨rfl, rfl, fun _ => ⟨happlied, hcopy⟩, hbrake⟩, nofun⟩
        · next hsame =>
          have heq : s.engine.derateAtOnce.commanded = s.engine.commanded := le_antisymm hle (not_lt.1 hsame)
          refine ⟨rfl, rfl, rfl, rfl, nofun, fun _ h => absurd h hsome, fun _ _ => ⟨rfl, rfl, fun hl => ?_, rfl⟩, nofun⟩
          obtain ⟨-, -, -, -, -, hcopy, -, happlied⟩ := hl
          exact ⟨(happlied.trans_eq hcopy).trans heq.ge, hcopy.trans heq.symm⟩

/-! ## The e-stop -/

/-- A channel's change and the pair watched, item by item (R129, R130). -/
theorem RequestUnit.watchPair_setChannel (r : RequestUnit) (isOpen : Bool) (now : Time) (c : Channel) :
    (r.setChannel isOpen now c).watchPair now =
      (let a := if c = .a then isOpen else r.estopAOpen
       let b := if c = .b then isOpen else r.estopBOpen
       { r with
         estopAOpen := a, estopBOpen := b
         estopAFrom := if c = .a then some now else r.estopAFrom
         estopBFrom := if c = .b then some now else r.estopBFrom
         discrepancySince := if a = b then none else some (r.discrepancySince.getD now)
         discrepancyLatch := r.discrepancyLatch && !(a && b) }) := by
  cases c <;> rfl

/-- An open channel is an e-stop condition. -/
theorem RequestUnit.estopCondition_of_channelOpen {r : RequestUnit} {c : Channel} (h : r.channelOpen c = true) :
    r.estopCondition = true := by
  cases c <;> simp_all [RequestUnit.estopCondition, RequestUnit.channelOpen]

/-- A channel that opens brings the e-stop condition. -/
theorem RequestUnit.estopCondition_of_open (r : RequestUnit) (now : Time) (c : Channel) :
    ((r.setChannel true now c).watchPair now).estopCondition = true := by
  cases c <;> simp [RequestUnit.estopCondition, RequestUnit.watchPair, RequestUnit.setChannel]

theorem channelFilter_eq (isOpen : Bool) : channelFilter isOpen = if isOpen then 2000 else 20000 := by
  cases isOpen <;> rfl

/-- The part with a filtered change of an e-stop channel taken at a moment, the pair watched (R129, R130). -/
def State.channelled (s : State) (c : Channel) (isOpen : Bool) (moment : Time) : State :=
  { s.tick moment with request := (s.request.setChannel isOpen (max s.now moment) c).watchPair (max s.now moment) }

/-- A filtered change of a channel: an onset is a channel that opens while no condition is present. -/
theorem execEstopChannelChange_eq {s : State} {m : Time} {c : Channel} {isOpen : Bool}
    (hrun : s.start.resetHeld = false) (hchannel : s.request.channelOpen c = !isOpen) :
    execEstopChannelChange m c isOpen s = .next (
      let x := s.channelled c isOpen (max m ((s.request.channelFrom c).getD 0 + if isOpen then 2000 else 20000))
      if s.request.estopCondition then x else x.takeCauses [.estop]) := by
  rw [execEstopChannelChange, if_neg (by rw [hchannel]; cases isOpen <;> simp), State.onFilter_running _ _ _ _ _ hrun,
    channelFilter_eq]
  congr 1
  by_cases hcondition : s.request.estopCondition = true
  · simp only [State.tick_request, hcondition, Bool.not_true, Bool.and_false, Bool.false_eq_true, if_false, if_true]
    rfl
  · have hopens : isOpen = true := by
      cases isOpen with
      | true => rfl
      | false => exact absurd (RequestUnit.estopCondition_of_channelOpen hchannel) hcondition
    subst hopens
    simp only [Bool.not_eq_true] at hcondition
    simp only [State.tick_request, hcondition, RequestUnit.estopCondition_of_open, Bool.not_false, Bool.and_true,
      Bool.false_eq_true, if_false, if_true]
    rfl

/-- Settles O41: an onset is a channel that opens without the condition; every other change raises nothing. -/
theorem estopChannelsHaltAndLatch : Obligations.EstopChannelsHaltAndLatch := by
  intro s m since c isOpen hrun hchannel
  refine ⟨⟨_, execEstopChannelChange_eq hrun hchannel, ?change⟩, fun hsince => ?latch⟩
  case latch =>
    show execDiscrepancyLatchSet s = _
    exact State.onTimer_eq hrun (congrArg (Option.map (· + Timing.discrepancy)) hsince)
  case change =>
    generalize max m ((s.request.channelFrom c).getD 0 + if isOpen then 2000 else 20000) = moment
    have hrequest := s.request.watchPair_setChannel isOpen (max s.now moment) c
    dsimp only
    cases hcondition : s.request.estopCondition with
    | true =>
      rw [if_pos rfl]
      exact ⟨rfl, rfl, rfl, rfl, hrequest, nofun, fun _ => rfl⟩
    | false =>
      rw [if_neg Bool.false_ne_true]
      have hhalts : HaltsAs s (s.channelled c isOpen moment) :=
        ⟨rfl, rfl, rfl, id, rfl, by cases c <;> rfl, by cases c <;> rfl⟩
      obtain ⟨hn, hs, hp, hr, -, -, -, hstroke, -⟩ := (s.channelled c isOpen moment).takeCauses_frame [.estop] 0
      refine ⟨hn, hs, hp, hstroke, ?_, fun _ => hhalts.takesCauses rfl 0, nofun⟩
      rw [hr, hn]
      exact hrequest

end Sys2Proof.Machine
end

section
/-! The commands of the bus interface's timers and of the end of an attempt. -/

namespace Sys2Proof.Machine

/-! ## What the queue's operations write -/

theorem StationState.period_eq (st : StationState) :
    st.period = if st = .parked ∨ st = .configFault then .slow else .fast := by
  cases st <;> rfl

theorem StationState.period_interval (st : StationState) :
    st.period.interval = if st = .parked ∨ st = .configFault then 500000 else 20000 := by
  cases st <;> rfl

theorem Bus.beginWait_frame (b before : Bus) (now : Time) :
    b.beginWait before now = { b with accessWait := if before.isEmpty then some now else b.accessWait } := by
  unfold Bus.beginWait
  split <;> rfl

/-- A prompt report asked for while no report is under attempt, item by item (R174, R177). -/
theorem Bus.askPrompt_judged {b : Bus} (hu : b.underAttempt .report = false) (now : Time) (p : PeriodClass)
    (restart : Bool) :
    b.askPrompt now p restart = { b with
      report := if b.promptSpent then b.report
        else some { b.report.getD { prompt := true, entered := now, attempts := 0 } with prompt := true }
      accessWait := if b.promptSpent || b.report.isSome then b.accessWait
        else if b.isEmpty then some now else b.accessWait
      reportTimer := if restart = true ∧ (b.promptSpent = false ∨ b.report.isSome = true)
        then some { due := now + p.interval, interval := p } else b.reportTimer } := by
  unfold Bus.askPrompt Bus.judgePrompt Bus.restartTimer
  simp only [Bus.beginWait_frame]
  rw [if_neg (by simp [hu])]
  rcases b with ⟨report, _, _, _, _, _, spent, _⟩
  cases spent <;> cases report <;> cases restart <;> rfl

theorem Bus.underAttempt_of_none {b : Bus} (h : b.attempt = none) (p : Place) : b.underAttempt p = false := by
  simp [Bus.underAttempt, h]

/-- A scheduled report that meets its place while none is under attempt (R174). -/
theorem Bus.scheduleReport_judged {b : Bus} (hu : b.underAttempt .report = false) (now : Time) :
    b.scheduleReport now = { b with
      report := some (b.report.getD { prompt := false, entered := now, attempts := 0 })
      accessWait := if b.report.isNone && b.isEmpty then some now else b.accessWait } := by
  unfold Bus.scheduleReport
  simp only [Bus.beginWait_frame]
  rw [if_neg (by simp [hu])]
  rcases b with ⟨report, _⟩
  cases report <;> rfl

/-- A pending report request judged between two attempts: the report place and the timer (R174, R177). -/
theorem Bus.judgeReport_spec {b : Bus} (h : b.attempt = none) (q : Option PendingReport) (now : Time) (p : PeriodClass) :
    b.judgeReport q now p = { b with
      accessWait := (b.judgeReport q now p).accessWait
      report := match q with
        | none => b.report
        | some x => if x.prompt && b.promptSpent then b.report
            else some (b.report.elim { prompt := x.prompt, entered := now, attempts := 0 }
              (fun y => { y with prompt := y.prompt || x.prompt }))
      reportTimer := if q.any (fun x => x.prompt && x.restart) = true
            ∧ (b.promptSpent = false ∨ b.report.isSome = true)
          then some { due := now + p.interval, interval := p } else b.reportTimer } := by
  have hu := Bus.underAttempt_of_none h .report
  unfold Bus.judgeReport
  cases q with
  | none => rfl
  | some x =>
    rcases b with ⟨report, _, _, _, _, _, spent, _⟩
    rcases x with ⟨prompt, restart⟩
    dsimp only
    rw [Bus.askPrompt_judged hu, Bus.scheduleReport_judged hu]
    cases prompt <;> cases report <;> cases spent <;> simp

theorem Bus.judgeMotion_spec {b : Bus} (h : b.attempt = none) (q : Option RequestKind) (now : Time) :
    b.judgeMotion q now = { b with
      accessWait := (b.judgeMotion q now).accessWait
      motion := match q with
        | some k => some { kind := k, entered := now, attempts := 0 }
        | none => b.motion } := by
  unfold Bus.judgeMotion
  cases q with
  | none => rfl
  | some k =>
    dsimp only
    rw [Bus.requestMotion, if_neg (by simp [Bus.underAttempt_of_none h]), Bus.beginWait_frame]

/-- The pending requests judged between two attempts: what each place then holds, and the report timer (R174, R177). -/
theorem Bus.judgePending_spec {b : Bus} (h : b.attempt = none) (now : Time) (p : PeriodClass) :
    b.judgePending now p = { b with
      accessWait := (b.judgePending now p).accessWait, pendingReport := none, pendingMotion := none
      motion := match b.pendingMotion with
        | some k => some { kind := k, entered := now, attempts := 0 }
        | none => b.motion
      report := match b.pendingReport with
        | none => b.report
        | some x => if x.prompt && b.promptSpent then b.report
            else some (b.report.elim { prompt := x.prompt, entered := now, attempts := 0 }
              (fun y => { y with prompt := y.prompt || x.prompt }))
      reportTimer := if b.pendingReport.any (fun x => x.prompt && x.restart) = true
            ∧ (b.promptSpent = false ∨ b.report.isSome = true)
          then some { due := now + p.interval, interval := p } else b.reportTimer } := by
  have hcleared : Bus.attempt { b with pendingReport := none, pendingMotion := none } = none := h
  have hreport := Bus.judgeReport_spec hcleared b.pendingReport now p
  rw [Bus.judgePending_eq]
  generalize Bus.judgeReport { b with pendingReport := none, pendingMotion := none } b.pendingReport now p = x at *
  have hx : x.attempt = none := by rw [hreport]; exact h
  rw [Bus.judgeMotion_spec hx, hreport]

/-- The pending requests judged and the wait begun again, as an attempt ends (R174, R178, R180). -/
theorem Bus.judged_spec {b : Bus} (h : b.attempt = none) (now : Time) (p : PeriodClass) :
    let b' := (b.judgePending now p).waitAgain now
    b' = { b with
      accessWait := if b'.isEmpty then none else some now, pendingReport := none, pendingMotion := none
      motion := match b.pendingMotion with
        | some k => some { kind := k, entered := now, attempts := 0 }
        | none => b.motion
      report := match b.pendingReport with
        | none => b.report
        | some x => if x.prompt && b.promptSpent then b.report
            else some (b.report.elim { prompt := x.prompt, entered := now, attempts := 0 }
              (fun y => { y with prompt := y.prompt || x.prompt }))
      reportTimer := if b.pendingReport.any (fun x => x.prompt && x.restart) = true
            ∧ (b.promptSpent = false ∨ b.report.isSome = true)
          then some { due := now + p.interval, interval := p } else b.reportTimer } := by
  have hjudged := Bus.judgePending_spec h now p
  generalize b.judgePending now p = x at hjudged
  have hwait : x.waitAgain now = { x with accessWait := if (x.waitAgain now).isEmpty then none else some now } := rfl
  generalize x.waitAgain now = y at hwait
  dsimp only
  rw [hjudged] at hwait
  exact hwait

/-! ## The report timer -/

/-- Settles O54: the scheduled report by whether a report is under attempt and a token stands in the place. -/
theorem reportTimerQueuesAScheduledReport : Obligations.ReportTimerQueuesAScheduledReport := by
  intro s x hrun htimer
  refine ⟨_, (State.onTimer_eq hrun (congrArg (Option.map ReportTimer.due) htimer) : execReportTimerExpiry s = _), ?_⟩
  obtain ⟨hattempt, hoffset, hspent, hmotion, hclear, -⟩ := s.bus.scheduleReport_frame (max s.now x.due)
  refine ⟨rfl, ?timer, hmotion, hclear, hattempt, hspent, hoffset, fun hu => ?under, fun hu => ?free⟩
  case timer =>
    show some ({ due := x.due + s.ctrl.state.period.interval, interval := s.ctrl.state.period } : ReportTimer) = _
    rw [StationState.period_interval, StationState.period_eq]
  case under =>
    show (s.bus.scheduleReport (max s.now x.due)).report = _ ∧ (s.bus.scheduleReport (max s.now x.due)).accessWait = _
      ∧ (s.bus.scheduleReport (max s.now x.due)).pendingReport = _
    rw [Bus.scheduleReport, if_pos hu]
    exact ⟨rfl, rfl, rfl⟩
  case free =>
    show (s.bus.scheduleReport (max s.now x.due)).pendingReport = _
      ∧ (s.bus.scheduleReport (max s.now x.due)).report = _ ∧ (s.bus.scheduleReport (max s.now x.due)).accessWait = _
    rw [Bus.scheduleReport_judged hu]
    refine ⟨rfl, rfl, ?_⟩
    cases hreport : s.bus.report <;> simp [Bus.isEmpty, hreport]

/-! ## A waiting token's limit -/

/-- The bus interface after an event of causes: a prompt report is asked for at an entry to HALTED (R114, R177). -/
theorem State.takeCauses_bus (s : State) {causes : List Cause} (hne : causes ≠ []) (origin : Nat) :
    (s.takeCauses causes origin).bus = if s.ctrl.state.isOperating = true ∧ s.ctrl.state ≠ .halted
      then s.bus.askPrompt s.now .fast (s.ctrl.state == .parked) else s.bus := by
  obtain ⟨first, rest, hinsert, -⟩ := Cause.insertAll_ne_nil hne
  rw [State.takeCauses_eq origin hinsert]
  by_cases hop : s.ctrl.state.isOperating = false
  · rw [if_pos hop, if_neg (by simp [hop])]
  · by_cases hst : s.ctrl.state = .halted
    · rw [if_neg hop, if_pos hst, if_neg (by simp [hst])]
      rfl
    · rw [if_neg hop, if_neg hst, if_pos ⟨by simpa using hop, hst⟩, State.enterHalted_bus, if_neg hst]

/-- What an event of causes leaves of the bus interface. -/
theorem State.takeCauses_bus_frame (s : State) (causes : List Cause) (origin : Nat) :
    let b := (s.takeCauses causes origin).bus
    b.attempt = s.bus.attempt ∧ b.promptSpent = s.bus.promptSpent ∧ b.retryOffset = s.bus.retryOffset
      ∧ b.motion = s.bus.motion ∧ b.clear = s.bus.clear := by
  by_cases hne : causes = []
  · rw [hne, State.takeCauses_nil]
    exact ⟨rfl, rfl, rfl, rfl, rfl⟩
  · rw [s.takeCauses_bus hne origin]
    split
    · obtain ⟨ha, ho, -, hs, hm, hc, -⟩ := s.bus.askPrompt_frame s.now .fast (s.ctrl.state == .parked)
      exact ⟨ha, hs, ho, hm, hc⟩
    · exact ⟨rfl, rfl, rfl, rfl, rfl⟩

theorem Bus.dropWaiting_frame (b : Bus) (p : Place) :
    b.dropWaiting p = { b with
      report := if p = .report then none else b.report
      motion := if p = .motion then none else b.motion
      clear := if p = .clear then none else b.clear
      accessWait := (b.dropWaiting p).accessWait } := by
  cases p <;> rfl

/-- Settles O59: a token under attempt has no limit; a waiting one leaves, and BUS_BLOCKED is an event of its own. -/
theorem waitingTokenIsDroppedAfterTenMs : Obligations.WaitingTokenIsDroppedAfterTenMs := by
  intro s p entered hrun hentered
  refine ⟨fun hu => ?under, fun hu => ?waits⟩
  case under =>
    show execTokenTimeout p s = _
    rw [execTokenTimeout, Bus.limitOf, if_pos hu, State.onTimer_stopped]
  case waits =>
    have hlimit : s.bus.limitOf p = some (entered + 10000) := by
      rw [Bus.limitOf, if_neg (by simp [hu]), hentered]
      rfl
    refine ⟨_, (State.onTimer_eq hrun hlimit : execTokenTimeout p s = _), ?_⟩
    generalize hx : ({ s.tick (entered + 10000) with bus := (s.tick (entered + 10000)).bus.dropWaiting p } : State) = x
    have hbus : x.bus = s.bus.dropWaiting p := by rw [← hx]; rfl
    rw [Bus.dropWaiting_frame] at hbus
    have hhalts : HaltsAs s x := by
      rw [← hx]
      exact ⟨rfl, rfl, by cases p <;> rfl, fun h => by cases p <;> exact h, rfl, rfl, rfl⟩
    obtain ⟨hn, hs, hp, hr, -, -, -, hstroke, -⟩ := x.takeCauses_frame [.busBlocked] 0
    obtain ⟨hattempt, hspent, -, hmotion, hclear⟩ := x.takeCauses_bus_frame [.busBlocked] 0
    have hasked := x.takeCauses_bus (causes := [.busBlocked]) (by simp) 0
    refine ⟨hn.trans (by rw [← hx]; rfl), hs.trans (by rw [← hx]; rfl), hp.trans (by rw [← hx]; rfl),
      hr.trans (by rw [← hx]; rfl), hstroke.trans (by rw [← hx]; rfl), hspent.trans (by rw [hbus]),
      hattempt.trans (by rw [hbus]), ?motionLeft, ?clearLeft, ?reportLeft, ?causes⟩
    case motionLeft =>
      rintro rfl
      exact ⟨hmotion.trans (by rw [hbus]; rfl), hclear.trans (by rw [hbus]; rfl)⟩
    case clearLeft =>
      rintro rfl
      exact ⟨hclear.trans (by rw [hbus]; rfl), hmotion.trans (by rw [hbus]; rfl)⟩
    case causes =>
      have := hhalts.takesCauses (causes := [.busBlocked]) rfl 0
      have horigin : x.originOf .busBlocked 0 = s.ownNumber := by rw [← hx]; rfl
      rwa [horigin] at this
    case reportLeft =>
      rintro rfl y hy
      have hfree : x.bus.underAttempt .report = false := by rw [hbus]; exact hu
      have hnone : x.bus.report = none := by rw [hbus]; rfl
      rw [hasked, Bus.askPrompt_judged hfree, hnone] at hy
      rw [hn]
      split at hy
      · split at hy
        · cases hy
        · cases hy
          exact ⟨rfl, rfl, rfl⟩
      · rw [hnone] at hy
        cases hy

/-! ## The end of an attempt -/

theorem Bus.emptyPlace_frame (b : Bus) (p : Place) :
    b.emptyPlace p = { b with
      report := if p = .report then none else b.report
      motion := if p = .motion then none else b.motion
      clear := if p = .clear then none else b.clear } := by
  cases p <;> rfl

theorem Bus.spentAfter_eq (b : Bus) (p : Place) :
    b.spentAfter p = if p = .report then (b.report.map ReportToken.prompt).getD b.promptSpent else b.promptSpent := by
  unfold Bus.spentAfter
  cases p <;> cases b.report <;> rfl

/-- A frame sent: its place empties before the pending requests are judged, item by item (R180). -/
theorem Bus.frameSent_spec (b : Bus) (p : Place) (now : Time) (period : PeriodClass) :
    let left := if p = .report then none else b.report
    let b' := b.frameSent p now period
    b' = { b with
      attempt := none, receiver := .waitingForIdle, idleFrom := max b.idleFrom now, promptSpent := b.spentAfter p
      accessWait := if b'.isEmpty then none else some now, pendingReport := none, pendingMotion := none
      clear := if p = .clear then none else b.clear
      motion := match b.pendingMotion with
        | some k => some { kind := k, entered := now, attempts := 0 }
        | none => if p = .motion then none else b.motion
      report := match b.pendingReport with
        | none => left
        | some x => if x.prompt && b.spentAfter p then left
            else some (left.elim { prompt := x.prompt, entered := now, attempts := 0 }
              (fun y => { y with prompt := y.prompt || x.prompt }))
      reportTimer := if b.pendingReport.any (fun x => x.prompt && x.restart) = true
            ∧ (b.spentAfter p = false ∨ left.isSome = true)
          then some { due := now + period.interval, interval := period } else b.reportTimer } := by
  have hfree : Bus.attempt { (b.endAttempt .waitingForIdle now).emptyPlace p with promptSpent := b.spentAfter p }
      = none := by rw [Bus.emptyPlace_frame]; rfl
  have hspec := Bus.judged_spec hfree now period
  rw [Bus.emptyPlace_frame] at hspec
  rw [Bus.frameSent, Bus.emptyPlace_frame]
  exact hspec

/-- Settles O56: the place empties before the pending requests are judged, so a report sent leaves none in its place. -/
theorem sentFrameLeavesTheQueue : Obligations.SentFrameLeavesTheQueue := by
  intro s a hrun hattempt
  have hdue : s.bus.attempt.map (fun a => a.began + Timing.character * a.frame.length)
      = some (a.began + 10 * a.frame.length) := by rw [hattempt]; rfl
  have hexec : execAttemptSent s = .next { s with
      now := max s.now (a.began + 10 * a.frame.length)
      bus := s.bus.frameSent a.place (max s.now (a.began + 10 * a.frame.length)) s.ctrl.state.period } := by
    rw [execAttemptSent, State.onTimer_eq hrun hdue, State.tick_bus, hattempt]
    rfl
  have hspec := s.bus.frameSent_spec a.place (max s.now (a.began + 10 * a.frame.length)) s.ctrl.state.period
  generalize s.bus.frameSent a.place (max s.now (a.began + 10 * a.frame.length)) s.ctrl.state.period = b at *
  dsimp only at hspec
  rw [StationState.period_interval, Bus.spentAfter_eq] at hspec
  refine ⟨_, hexec, ?_⟩
  have hspent : b.promptSpent = if a.place = .report then (s.bus.report.map ReportToken.prompt).getD s.bus.promptSpent
      else s.bus.promptSpent := (congrArg Bus.promptSpent hspec).trans rfl
  have hreport := congrArg Bus.report hspec
  have htimer := congrArg Bus.reportTimer hspec
  dsimp only at hreport htimer
  rw [← hspent] at hreport htimer
  refine ⟨rfl, (congrArg Bus.attempt hspec).trans rfl, (congrArg Bus.pendingReport hspec).trans rfl,
    (congrArg Bus.pendingMotion hspec).trans rfl, (congrArg Bus.idleFrom hspec).trans rfl,
    (congrArg Bus.receiver hspec).trans rfl, (congrArg Bus.retryOffset hspec).trans rfl,
    (congrArg Bus.accessWait hspec).trans rfl, hspent, (congrArg Bus.clear hspec).trans rfl,
    (congrArg Bus.motion hspec).trans rfl, fun hp => ?sentReport, fun hp hnone => ?other, fun hp => ?sentTimer⟩
  case sentReport =>
    rw [hreport, if_pos hp]
    cases s.bus.pendingReport <;> rfl
  case other =>
    rw [hnone] at hreport htimer
    rw [hreport, htimer, if_neg hp]
    exact ⟨rfl, rfl⟩
  case sentTimer =>
    rw [if_pos hp] at htimer
    rw [htimer, StationState.period_eq]
    simp

/-- The bus interface after a failed attempt is counted at its token (R180, R181). -/
theorem Bus.countFailure_frame {b : Bus} {p : Place} {entered : Time} (h : b.enteredAt p = some entered) :
    b.countFailure p = { b with
      report := if p = .report then b.report.map (fun x => { x with attempts := b.attemptsOf p + 1 }) else b.report
      motion := if p = .motion then b.motion.map (fun x => { x with attempts := b.attemptsOf p + 1 }) else b.motion
      clear := if p = .clear then b.clear.map (fun x => { x with attempts := b.attemptsOf p + 1 }) else b.clear } := by
  rcases b with ⟨report, motion, clear, _⟩
  cases p with
  | report =>
    cases report with
    | none => cases h
    | some x => rfl
  | motion =>
    cases motion with
    | none => cases h
    | some x => rfl
  | clear =>
    cases clear with
    | none => cases h
    | some x => rfl

/-- The bus interface of an abandoned attempt before its token's fate: the line released, the failure counted and the
offset of the next access formed (R170, R180, R181). -/
def Bus.failed (b : Bus) (p : Place) (broken : BrokenCharacter) (now : Time) (unitNumber : Nat) : Bus :=
  let b1 := (b.endAttempt (b.receiverAfter broken) (now + broken.held)).countFailure p
  { b1 with retryOffset := Machine.retryOffset unitNumber (b1.attemptsOf p) }

/-- The bus interface written, alone. -/
def State.withBus (s : State) (b : Bus) : State := { s with bus := b }

theorem State.abandonAttempt_kept {s : State} {p : Place} {broken : BrokenCharacter}
    (h : (s.bus.failed p broken s.now s.start.unitNumber).dropsToken p s.now = false) :
    s.abandonAttempt p broken = (s.withBus (s.bus.failed p broken s.now s.start.unitNumber)).judgeQueue := if_neg (by
  rw [Bool.not_eq_true]
  exact h)

theorem State.abandonAttempt_dropped {s : State} {p : Place} {broken : BrokenCharacter}
    (h : (s.bus.failed p broken s.now s.start.unitNumber).dropsToken p s.now = true) :
    s.abandonAttempt p broken
      = ((s.withBus ((s.bus.failed p broken s.now s.start.unitNumber).emptyPlace p)).takeCauses [.busBlocked]).judgeQueue :=
  if_pos h

section Failed

variable {b : Bus} {p : Place} {entered : Time} (h : b.enteredAt p = some entered) (broken : BrokenCharacter) (now : Time)
  (u : Nat)
include h

theorem Bus.failed_frame : b.failed p broken now u = { b with
    attempt := none, receiver := b.receiverAfter broken, idleFrom := max b.idleFrom (now + broken.held)
    retryOffset := Machine.retryOffset u (b.attemptsOf p + 1)
    report := if p = .report then b.report.map (fun x => { x with attempts := b.attemptsOf p + 1 }) else b.report
    motion := if p = .motion then b.motion.map (fun x => { x with attempts := b.attemptsOf p + 1 }) else b.motion
    clear := if p = .clear then b.clear.map (fun x => { x with attempts := b.attemptsOf p + 1 }) else b.clear } := by
  have hend : (b.endAttempt (b.receiverAfter broken) (now + broken.held)).enteredAt p = some entered := by
    cases p <;> exact h
  have hcount : ((b.endAttempt (b.receiverAfter broken) (now + broken.held)).countFailure p).attemptsOf p
      = b.attemptsOf p + 1 := by
    rw [Bus.countFailure_attemptsOf, if_pos ⟨rfl, by rw [hend]; rfl⟩]
    cases p <;> rfl
  rw [Bus.failed, hcount, Bus.countFailure_frame hend]
  cases p <;> rfl

theorem Bus.failed_token : (b.failed p broken now u).enteredAt p = some entered
    ∧ (b.failed p broken now u).attemptsOf p = b.attemptsOf p + 1 := by
  rw [Bus.failed_frame h]
  rcases b with ⟨report, motion, clear, _⟩
  cases p with
  | report =>
    cases report with
    | none => cases h
    | some x => exact ⟨h, rfl⟩
  | motion =>
    cases motion with
    | none => cases h
    | some x => exact ⟨h, rfl⟩
  | clear =>
    cases clear with
    | none => cases h
    | some x => exact ⟨h, rfl⟩

/-- The token is dropped at its sixteenth failure, or when the attempt ends more than 10 ms after its entry (R182). -/
theorem Bus.failed_dropsToken :
    (b.failed p broken now u).dropsToken p now = decide (16 ≤ b.attemptsOf p + 1 ∨ entered + 10000 < now) := by
  obtain ⟨hentered, hcount⟩ := Bus.failed_token h broken now u
  rw [Bus.dropsToken, hentered, hcount, Bool.decide_or]
  rfl

end Failed

/-- What an abandoned attempt does before the pending requests are judged: the token's fate, and BUS_BLOCKED (R180 to
R182). -/
theorem State.abandonAttempt_spec {s : State} {p : Place} {entered : Time} (hentered : s.bus.enteredAt p = some entered)
    (hattempt : s.bus.attempt ≠ none) (broken : BrokenCharacter) (moment : Time) :
    let now := max s.now moment
    let fails := s.bus.attemptsOf p + 1
    let dropped := 16 ≤ fails ∨ entered + 10000 < now
    let halts := dropped ∧ s.ctrl.state.isOperating = true ∧ s.ctrl.state ≠ .halted
    let left := if p ≠ .report then s.bus.report else if dropped then none
      else s.bus.report.map (fun x => { x with attempts := fails })
    ∃ y : State, (s.tick moment).abandonAttempt p broken = y.judgeQueue ∧ y.now = now ∧ y.start = s.start ∧ y.peers = s.peers
      ∧ y.request = s.request ∧ y.meas.stroke = s.meas.stroke
      ∧ y.bus = { s.bus with
          attempt := none, receiver := s.bus.receiverAfter broken, idleFrom := max s.bus.idleFrom (now + broken.held)
          retryOffset := Machine.retryOffset s.start.unitNumber fails, accessWait := y.bus.accessWait
          motion := if p ≠ .motion then s.bus.motion else if dropped then none
            else s.bus.motion.map (fun x => { x with attempts := fails })
          clear := if p ≠ .clear then s.bus.clear else if dropped then none
            else s.bus.clear.map (fun x => { x with attempts := fails })
          report := if halts ∧ s.bus.promptSpent = false
            then some { left.getD { prompt := true, entered := now, attempts := 0 } with prompt := true } else left
          reportTimer := if halts ∧ s.ctrl.state = .parked ∧ (s.bus.promptSpent = false ∨ left.isSome = true)
            then some { due := now + 20000, interval := .fast } else s.bus.reportTimer }
      ∧ (¬dropped → y = { s with now := now, bus := y.bus })
      ∧ (dropped → (s.ctrl.state.isOperating = false → y.ctrl = s.ctrl)
        ∧ TakesCauses s y [.busBlocked] .busBlocked s.ownNumber) := by
  intro now fails dropped halts left
  have hframe := Bus.failed_frame hentered broken now s.start.unitNumber
  have hdrops := Bus.failed_dropsToken hentered broken now s.start.unitNumber
  by_cases hd : dropped
  · rw [decide_eq_true hd] at hdrops
    have habandon : (s.tick moment).abandonAttempt p broken = (((s.tick moment).withBus
        ((s.bus.failed p broken now s.start.unitNumber).emptyPlace p)).takeCauses [.busBlocked]).judgeQueue :=
      State.abandonAttempt_dropped hdrops
    generalize s.bus.failed p broken now s.start.unitNumber = b at hframe habandon
    have hempty : b.emptyPlace p = { s.bus with
        attempt := none, receiver := s.bus.receiverAfter broken, idleFrom := max s.bus.idleFrom (now + broken.held)
        retryOffset := Machine.retryOffset s.start.unitNumber fails
        report := if p ≠ .report then s.bus.report else none
        motion := if p ≠ .motion then s.bus.motion else none
        clear := if p ≠ .clear then s.bus.clear else none } := by
      rw [hframe]
      cases p <;> rfl
    generalize hx : (s.tick moment).withBus (b.emptyPlace p) = x at habandon
    have hxbus : x.bus = b.emptyPlace p := by rw [← hx]; rfl
    have hxctrl : x.ctrl = s.ctrl := by rw [← hx]; rfl
    have hxnow : x.now = now := by rw [← hx]; rfl
    have horigin : x.originOf .busBlocked 0 = s.ownNumber := by rw [← hx]; rfl
    have hhalts : HaltsAs s x :=
      ⟨hxctrl, by rw [← hx]; rfl, by rw [hxbus, hempty], fun h => absurd h hattempt, by rw [← hx]; rfl, by rw [← hx]; rfl,
        by rw [← hx]; rfl⟩
    obtain ⟨hn, hs, hp, hr, -, -, -, hstroke, -⟩ := x.takeCauses_frame [.busBlocked] 0
    have hcauses := hhalts.takesCauses (causes := [.busBlocked]) rfl 0
    have hasked := x.takeCauses_bus (causes := [.busBlocked]) (by simp) 0
    rw [horigin] at hcauses
    rw [hxctrl, hxbus, hxnow] at hasked
    refine ⟨_, habandon, hn.trans hxnow, hs.trans (by rw [← hx]; rfl), hp.trans (by rw [← hx]; rfl),
      hr.trans (by rw [← hx]; rfl), hstroke.trans (by rw [← hx]; rfl), ?_, fun h => absurd hd h,
      fun _ => ⟨fun hop => ?_, hcauses⟩⟩
    swap
    · rw [x.takeCauses_eq 0 (causes := [.busBlocked]) rfl, hxctrl, if_pos hop, hxctrl]
    rw [hasked]
    by_cases hst : s.ctrl.state.isOperating = true ∧ s.ctrl.state ≠ .halted
    · have hh : halts := ⟨hd, hst⟩
      have hfree : (b.emptyPlace p).underAttempt .report = false := Bus.underAttempt_of_none (by rw [hempty]) _
      rw [if_pos hst, Bus.askPrompt_judged hfree, hempty]
      simp only [hh, hd, left, true_and, if_true, beq_eq_decide, decide_eq_true_eq]
      congr 1
      cases s.bus.promptSpent <;> simp
    · have hh : ¬halts := fun h => hst h.2
      rw [if_neg hst, hempty]
      simp only [hh, hd, left, false_and, if_false, if_true]
  · rw [decide_eq_false hd] at hdrops
    have hh : ¬halts := fun h => hd h.1
    have habandon : (s.tick moment).abandonAttempt p broken
        = ((s.tick moment).withBus (s.bus.failed p broken now s.start.unitNumber)).judgeQueue :=
      State.abandonAttempt_kept hdrops
    generalize s.bus.failed p broken now s.start.unitNumber = b at hframe habandon
    refine ⟨_, habandon, rfl, rfl, rfl, rfl, rfl, ?_, fun _ => rfl, fun h => absurd h hd⟩
    have hb : ((s.tick moment).withBus b).bus = b := rfl
    rw [hb, hframe]
    simp only [hh, hd, false_and, if_false, left]
    cases p <;> rfl

/-- Settles O57: the token's fate and BUS_BLOCKED first, then the pending requests judged on what they leave. -/
theorem abandonedAttemptWaitsOrIsDropped : Obligations.AbandonedAttemptWaitsOrIsDropped := by
  intro s a broken entered hrun hattempt hentered
  have hdue : s.bus.attempt.map (fun a => a.began + Timing.character * min broken.number a.frame.length)
      = some (a.began + 10 * min broken.number a.frame.length) := by rw [hattempt]; rfl
  have hexec : execAttemptAbandoned broken s
      = .next ((s.tick (a.began + 10 * min broken.number a.frame.length)).abandonAttempt a.place broken) := by
    rw [execAttemptAbandoned, State.onTimer_eq hrun hdue, State.tick_bus, hattempt]
  have hsome : s.bus.attempt ≠ none := by rw [hattempt]; simp
  obtain ⟨y, hy, hnow, hstart, hpeers, hrequest, hstroke, hbus, hkept, hdropped⟩ := State.abandonAttempt_spec
    hentered hsome broken (a.began + 10 * min broken.number a.frame.length)
  rw [hy] at hexec
  have hfree : y.bus.attempt = none := by rw [hbus]
  have hspec := Bus.judged_spec hfree y.now y.ctrl.state.period
  have hjudge : y.judgeQueue = { y with bus := (y.bus.judgePending y.now y.ctrl.state.period).waitAgain y.now } := rfl
  generalize (y.bus.judgePending y.now y.ctrl.state.period).waitAgain y.now = b at hspec hjudge
  rw [hjudge] at hexec
  rw [hbus] at hspec
  dsimp only at hspec
  rw [StationState.period_interval, StationState.period_eq, hnow] at hspec
  have hoffset : b.retryOffset = Machine.retryOffset s.start.unitNumber (s.bus.attemptsOf a.place + 1) :=
    (congrArg Bus.retryOffset hspec).trans rfl
  have hreport := congrArg Bus.report hspec
  have hmotion := congrArg Bus.motion hspec
  have hclear := congrArg Bus.clear hspec
  dsimp only at hreport hmotion hclear
  have hnd : s.bus.attemptsOf a.place + 1 < 16 → y.now ≤ entered + 10000 → ¬(16 ≤ s.bus.attemptsOf a.place + 1
      ∨ entered + 10000 < max s.now (a.began + 10 * min broken.number a.frame.length)) := fun hfew hsoon =>
    not_or.2 ⟨not_le.2 hfew, not_lt.2 (hnow ▸ hsoon)⟩
  have hmax : 16 ≤ s.bus.attemptsOf a.place + 1 ∨ entered + 10000 < y.now → 16 ≤ s.bus.attemptsOf a.place + 1
      ∨ entered + 10000 < max s.now (a.began + 10 * min broken.number a.frame.length) := fun hd => hnow ▸ hd
  refine ⟨_, hexec, hnow, ?idle, ?receiver, hstart, hpeers, hrequest, hstroke, ?attempt, ?pendingReport, ?pendingMotion,
    ?spent, ?wait, ?offset, ?bound, ⟨?motion, ?clear, ?report, ?timer⟩, fun hfew hsoon => ⟨?untouched, fun hnone => ?token⟩,
    fun hd => ⟨fun hp hnone => ?motionLeft, fun hp => ?clearLeft, fun x hx hp => ?reportLeft, fun hop => ?disregarded, ?causes⟩⟩
  case idle => rw [hnow]; exact (congrArg Bus.idleFrom hspec).trans rfl
  case receiver => exact (congrArg Bus.receiver hspec).trans rfl
  case attempt => exact (congrArg Bus.attempt hspec).trans rfl
  case pendingReport => exact (congrArg Bus.pendingReport hspec).trans rfl
  case pendingMotion => exact (congrArg Bus.pendingMotion hspec).trans rfl
  case spent => exact (congrArg Bus.promptSpent hspec).trans rfl
  case wait => rw [hnow]; exact (congrArg Bus.accessWait hspec).trans rfl
  case offset => exact hoffset
  case bound => exact hoffset.trans_le (retryOffset_le _ _)
  case motion => rw [hnow]; exact (congrArg Bus.motion hspec).trans rfl
  case clear => rw [hnow]; exact (congrArg Bus.clear hspec).trans rfl
  case report => rw [hnow]; exact (congrArg Bus.report hspec).trans rfl
  case timer => rw [hnow]; exact (congrArg Bus.reportTimer hspec).trans rfl
  case untouched =>
    have hk := hkept (hnd hfew hsoon)
    generalize y.bus = yb at hk
    subst hk
    rfl
  case token =>
    simp only [hnd hfew hsoon, false_and, if_false] at hreport hmotion hclear
    show b.enteredAt a.place = _ ∧ b.attemptsOf a.place = _
    cases hp : a.place with
    | report =>
      rw [hp] at hentered hreport
      obtain ⟨x, hx, rfl⟩ := Option.map_eq_some_iff.1 hentered
      rw [hx] at hreport
      simp only [Bus.enteredAt, Bus.attemptsOf, hreport]
      cases s.bus.pendingReport with
      | none => exact ⟨rfl, rfl⟩
      | some q =>
        dsimp only
        split <;> exact ⟨rfl, rfl⟩
    | motion =>
      rw [hp] at hentered hmotion
      obtain ⟨x, hx, rfl⟩ := Option.map_eq_some_iff.1 hentered
      rw [hx, hnone] at hmotion
      simp only [Bus.enteredAt, Bus.attemptsOf, hmotion]
      exact ⟨rfl, rfl⟩
    | clear =>
      rw [hp] at hentered hclear
      obtain ⟨x, hx, rfl⟩ := Option.map_eq_some_iff.1 hentered
      rw [hx] at hclear
      simp only [Bus.enteredAt, Bus.attemptsOf, hclear]
      exact ⟨rfl, rfl⟩
  case motionLeft =>
    rw [hnone, if_neg (not_not.2 hp), if_pos (hmax hd)] at hmotion
    exact hmotion
  case clearLeft =>
    rw [if_neg (not_not.2 hp), if_pos (hmax hd)] at hclear
    exact hclear
  case reportLeft =>
    rw [if_neg (not_not.2 hp), if_pos (hmax hd)] at hreport
    replace hx : x ∈ b.report := hx
    rw [hreport] at hx
    show x.entered = y.now ∧ x.attempts = 0
    rw [hnow]
    cases hq : s.bus.pendingReport with
    | none =>
      rw [hq] at hx
      dsimp only at hx
      split at hx <;> cases hx
      exact ⟨rfl, rfl⟩
    | some q =>
      rw [hq] at hx
      dsimp only at hx
      repeat' split at hx
      all_goals cases hx
      all_goals exact ⟨rfl, rfl⟩
  case causes => exact (hdropped (hmax hd)).2.withBus hsome b
  case disregarded =>
    obtain ⟨hctrl, hcauses, -⟩ := hdropped (hmax hd)
    exact ⟨hctrl hop, (hcauses hop).2⟩

end Sys2Proof.Machine
end

section
/-! The jack switches and the park timer. -/

namespace Sys2Proof.Machine

/-! ## The jack switches -/

/-- What an event of causes leaves of the measurement unit: the counters stop at an entry to HALTED, and nothing else. -/
theorem State.takeCauses_meas (s : State) (causes : List Cause) (origin : Nat) :
    (s.takeCauses causes origin).meas = { s.meas with
      contact := (s.takeCauses causes origin).meas.contact, release := (s.takeCauses causes origin).meas.release
      unseat := (s.takeCauses causes origin).meas.unseat } := by
  by_cases hne : causes = []
  · rw [hne, State.takeCauses_nil]
  · obtain ⟨first, rest, hinsert, -⟩ := Cause.insertAll_ne_nil hne
    rw [State.takeCauses_eq origin hinsert]
    split
    · rfl
    · split
      · rfl
      · next hst =>
        rw [State.enterHalted_meas _ _ hst]
        rfl

/-- The part with a filtered change of a switch taken at a moment (R47). -/
def State.switched (s : State) (w : JackSwitch) (active : Bool) (moment : Time) : State :=
  { s.tick moment with meas := s.meas.setSwitch active (max s.now moment) w }

/-- What a switch that turns active does (R49, R94). -/
def State.switchActs (x : State) : JackSwitch → State
  | .upperEnd => x.endClampAtOnce .up
  | .lowerEnd => x.endClampAtOnce .down
  | .overtravel => x.takeCauses [.overtravel]

theorem execSwitchFilterChange_eq {s : State} {m : Time} {w : JackSwitch} {active : Bool}
    (hrun : s.start.resetHeld = false) (hswitch : s.meas.switch w = !active) :
    execSwitchFilterChange m w active s = .next (
      let x := s.switched w active (max m ((s.meas.switchFrom w).getD 0 + 5000))
      if active then x.switchActs w else x) := by
  rw [execSwitchFilterChange, if_neg (by rw [hswitch]; cases active <;> simp), State.onFilter_running _ _ _ _ _ hrun]
  cases w <;> rfl

theorem Measurement.setSwitch_eq (u : Measurement) (active : Bool) (now : Time) (w : JackSwitch) :
    u.setSwitch active now w = { u with
      upperEnd := if w = .upperEnd then active else u.upperEnd
      lowerEnd := if w = .lowerEnd then active else u.lowerEnd
      overtravel := if w = .overtravel then active else u.overtravel
      upperEndFrom := if w = .upperEnd then some now else u.upperEndFrom
      lowerEndFrom := if w = .lowerEnd then some now else u.lowerEndFrom
      overtravelFrom := if w = .overtravel then some now else u.overtravelFrom } := by
  cases w <;> rfl

/-- A hand-over of no output: none is applied, and the stall count goes where a least demand is in force. -/
theorem Drive.handOver_zero (d : Drive) (dMin : Nat) (x : Int) (dir : Direction) :
    (d.handOver dMin x 0 dir).applied = 0 ∧ (0 < dMin → (d.handOver dMin x 0 dir).stall = 0) := by
  unfold Drive.handOver
  split
  · exact ⟨by simp, fun h => by simp [h]⟩
  · exact ⟨rfl, fun _ => rfl⟩

theorem State.endClampAtOnce_frame (x : State) (dir : Direction) :
    let t := x.endClampAtOnce dir
    t.now = x.now ∧ t.start = x.start ∧ t.peers = x.peers ∧ t.request = x.request
      ∧ t.meas = { x.meas with contact := t.meas.contact, release := t.meas.release, unseat := t.meas.unseat } := by
  unfold State.endClampAtOnce
  split <;> exact ⟨rfl, rfl, rfl, rfl, rfl⟩

/-- An end switch that turns active: the clamp at once where the station moves toward it, and nothing else (R94). -/
theorem State.endClampAtOnce_spec (x : State) (dir : Direction) :
    let t := x.endClampAtOnce dir
    t.ctrl = x.ctrl ∧ t.halt = x.halt ∧ t.bus = x.bus
      ∧ (x.ctrl.state.motion x.ctrl.jogDirection = some dir →
          t.engine = { x.engine with commanded := 0 } ∧ t.drive.applied = 0 ∧ t.drive.commandedCopy = 0
            ∧ t.drive.brake = x.drive.brake ∧ (0 < x.start.dMin → t.drive.stall = 0))
      ∧ (x.ctrl.state.motion x.ctrl.jogDirection ≠ some dir → t = x) := by
  unfold State.endClampAtOnce
  by_cases h : x.ctrl.state.motion x.ctrl.jogDirection = some dir
  · rw [if_pos h]
    obtain ⟨hcopy, -, hbrake, -⟩ := x.drive.handOver_spec x.start.dMin x.meas.stroke 0 x.engine.direction
    obtain ⟨happlied, hstall⟩ := x.drive.handOver_zero x.start.dMin x.meas.stroke x.engine.direction
    exact ⟨rfl, rfl, rfl, fun _ => ⟨rfl, happlied, hcopy, hbrake, hstall⟩, fun hne => absurd h hne⟩
  · rw [if_neg h]
    exact ⟨rfl, rfl, rfl, fun he => absurd he h, fun _ => rfl⟩

theorem State.switchActs_frame (x : State) (w : JackSwitch) :
    let t := x.switchActs w
    t.now = x.now ∧ t.start = x.start ∧ t.peers = x.peers ∧ t.request = x.request
      ∧ t.meas = { x.meas with contact := t.meas.contact, release := t.meas.release, unseat := t.meas.unseat } := by
  cases w with
  | overtravel =>
    obtain ⟨hn, hs, hp, hr, -⟩ := x.takeCauses_frame [.overtravel] 0
    exact ⟨hn, hs, hp, hr, x.takeCauses_meas _ _⟩
  | upperEnd => exact x.endClampAtOnce_frame .up
  | lowerEnd => exact x.endClampAtOnce_frame .down

/-- Settles O28: the filtered change, then by the switch the clamp at once or the cause. -/
theorem switchChangeClampsOrHalts : Obligations.SwitchChangeClampsOrHalts := by
  intro s m w active hrun hswitch
  refine ⟨_, execSwitchFilterChange_eq hrun hswitch, ?_⟩
  generalize max m ((s.meas.switchFrom w).getD 0 + 5000) = moment
  have hframe : let x := s.switched w active moment
      let t := if active then x.switchActs w else x
      t.now = x.now ∧ t.start = x.start ∧ t.peers = x.peers ∧ t.request = x.request
        ∧ t.meas = { x.meas with contact := t.meas.contact, release := t.meas.release, unseat := t.meas.unseat } := by
    cases active
    · exact ⟨rfl, rfl, rfl, rfl, rfl⟩
    · exact State.switchActs_frame _ w
  have hmeas : (s.switched w active moment).meas = _ := s.meas.setSwitch_eq active (max s.now moment) w
  dsimp only at hframe ⊢
  rw [hmeas] at hframe
  obtain ⟨hn, hs, hp, hr, hm⟩ := hframe
  refine ⟨hn, ?meas, ?upper, ?lower, ?travel, ?stroke, ?load, hs, hp, hr, ?acts⟩
  case upper => exact (congrArg Measurement.upperEnd hm).trans rfl
  case lower => exact (congrArg Measurement.lowerEnd hm).trans rfl
  case travel => exact (congrArg Measurement.overtravel hm).trans rfl
  case stroke => exact (congrArg Measurement.stroke hm).trans rfl
  case load => exact (congrArg Measurement.load hm).trans rfl
  case meas =>
    have hnow : (if active = true then (s.switched w active moment).switchActs w else s.switched w active moment).now
        = max s.now moment := hn
    rw [hnow]
    generalize (if active = true then (s.switched w active moment).switchActs w else s.switched w active moment) = t at hm
    have hupper := congrArg Measurement.upperEnd hm
    have hlower := congrArg Measurement.lowerEnd hm
    have htravel := congrArg Measurement.overtravel hm
    dsimp only at hupper hlower htravel
    rw [hupper, hlower, htravel]
    exact hm
  case acts =>
    cases active with
    | false => exact ⟨fun h => absurd h.1 Bool.false_ne_true, nofun, fun _ _ => rfl⟩
    | true =>
      rw [if_pos rfl]
      cases w with
      | overtravel =>
        have hhalts : HaltsAs s (s.switched .overtravel true moment) := ⟨rfl, rfl, rfl, id, rfl, rfl, rfl⟩
        refine ⟨fun h => ?_, fun _ _ => hhalts.takesCauses (causes := [.overtravel]) rfl 0, fun _ h => absurd ⟨rfl, rfl⟩ h⟩
        rcases h.2 with ⟨h, -⟩ | ⟨h, -⟩ <;> cases h
      | upperEnd =>
        obtain ⟨hctrl, hhalt, hbus, hclamps, hstands⟩ := (s.switched .upperEnd true moment).endClampAtOnce_spec .up
        refine ⟨fun h => ?_, fun _ h => JackSwitch.noConfusion h, fun h _ => ?_⟩
        · obtain ⟨hengine, happlied, hcopy, hbrake, hstall⟩ := hclamps (h.2.elim And.right fun h => by cases h.1)
          exact ⟨hengine, happlied, hcopy, hbrake, hstall, hctrl, hhalt, hbus⟩
        · have hstays : (s.switched .upperEnd true moment).switchActs .upperEnd = s.switched .upperEnd true moment :=
            hstands fun he => h ⟨rfl, .inl ⟨rfl, he⟩⟩
          rw [hstays]
          rfl
      | lowerEnd =>
        obtain ⟨hctrl, hhalt, hbus, hclamps, hstands⟩ := (s.switched .lowerEnd true moment).endClampAtOnce_spec .down
        refine ⟨fun h => ?_, fun _ h => JackSwitch.noConfusion h, fun h _ => ?_⟩
        · obtain ⟨hengine, happlied, hcopy, hbrake, hstall⟩ := hclamps (h.2.elim (fun h => by cases h.1) And.right)
          exact ⟨hengine, happlied, hcopy, hbrake, hstall, hctrl, hhalt, hbus⟩
        · have hstays : (s.switched .lowerEnd true moment).switchActs .lowerEnd = s.switched .lowerEnd true moment :=
            hstands fun he => h ⟨rfl, .inr ⟨rfl, he⟩⟩
          rw [hstays]
          rfl

/-! ## The park timer -/

/-- A station parked under the command NONE stays in PARKED. -/
theorem State.parked_rest {x : State} (hst : x.ctrl.state = .parked) (hcommand : x.command = .none) :
    x.chain = x := by
  have hstep : x.chainStep = x := by
    unfold State.chainStep
    rw [hst]
    exact if_pos hcommand
  exact State.chain_of_rest hstep

/-- PARKED handed on from HOLDING: the output goes, the brake stands, the unseat counter runs on, and a prompt report is
asked for with the restart of the report timer (R98, R145, R160). -/
theorem State.handOn_parks (y : State) :
    (y.withState .parked).handOn .holding = { y.withState .parked with
      engine := y.engine.stateChange (y.start.ceiling .parked) none
      drive := y.drive.handOver y.start.dMin y.meas.stroke (y.engine.stateChange (y.start.ceiling .parked) none).commanded
        y.engine.direction
      meas := { y.meas with contact := y.meas.contact.stopped, release := y.meas.release.stopped }
      bus := y.bus.askPrompt y.now .slow true } := rfl

/-- Settles O53: PARKED rests under the command NONE, so the chain stops there, and the change is handed on. -/
theorem parkTimerParksTheStation : Obligations.ParkTimerParksTheStation := by
  intro s due hrun htimer hst hcommand
  have hexec : execParkTimerExpiry s = .next ((((s.tick due).withState .parked).handOn .holding).refresh) := by
    have hrest : ((s.tick due).withState .parked).chain = (s.tick due).withState .parked := State.parked_rest rfl hcommand
    have hparks : (s.tick due).ctrl.state = .holding := hst
    rw [execParkTimerExpiry, State.onTimer_eq hrun htimer, if_pos hparks, State.settleFrom, hrest]
  rw [State.handOn_parks] at hexec
  obtain ⟨-, -, hbrake, -, hdelay, hcreep, -⟩ := s.drive.handOver_spec s.start.dMin s.meas.stroke
    (s.engine.stateChange (s.start.ceiling .parked) none).commanded s.engine.direction
  have hcommanded : (s.engine.stateChange (s.start.ceiling .parked) none).commanded = 0 := by
    rw [s.start.ceiling_of_not_moving rfl]
    simp [Engine.stateChange]
  refine ⟨_, hexec, rfl, ?ctrl, hbrake, hdelay, hcreep, hcommanded, rfl, rfl, rfl, rfl, rfl, rfl, ?asks, ?quiet⟩
  case ctrl =>
    exact congrArg (fun lit => { s.ctrl with state := .parked, parkTimer := none, readyLamp := lit })
      (Bool.and_true s.ctrl.assembled)
  case asks =>
    have := s.bus.askPrompt_restart (max s.now due) .slow
    rw [PeriodClass.interval_eq] at this
    exact this
  case quiet =>
    intro hattempt hspent hreport
    show s.bus.askPrompt (max s.now due) .slow true = s.bus
    simp [Bus.askPrompt, Bus.judgePrompt, Bus.underAttempt, hattempt, hspent, hreport]

end Sys2Proof.Machine
end

section
/-! The layouts: the option block, the frames of the line, and their bit times. -/

namespace Sys2Proof.Machine

/-! ## The option block -/

theorem blockOf_length (data : BitVec 280) : (blockOf data).length = 35 := by simp [blockOf]

theorem blockOf_getD (data : BitVec 280) {k : Nat} (hk : k < 35) :
    (blockOf data).getD k 0#8 = data.extractLsb' (8 * (34 - k)) 8 := by
  simp [blockOf, hk]

theorem blockOf_getMsbD (data : BitVec 280) {k j : Nat} (hk : k < 35) (hj : j < 8) :
    ((blockOf data).getD k 0#8).getMsbD j = data.getMsbD (8 * k + j) := by
  have hplace : 8 * (34 - k) + (8 - 1 - j) = 280 - 1 - (8 * k + j) := by omega
  have hin : 8 * k + j < 280 := by omega
  rw [blockOf_getD data hk, BitVec.getMsbD_eq_getLsbD, BitVec.getMsbD_eq_getLsbD, BitVec.getLsbD_extractLsb', hplace]
  simp [hj, hin]
  intro _
  omega

theorem highByte_toNat (w : Word16) : (highByte w).toNat = w.toNat / 256 := by
  have := w.isLt
  simp only [highByte, BitVec.extractLsb'_toNat, Nat.shiftRight_eq_div_pow]
  omega

theorem lowByte_toNat (w : Word16) : (lowByte w).toNat = w.toNat % 256 := by
  simp [lowByte]

/-- The stored CRC of a block of 35 bytes is its last two, the most significant first. -/
theorem storedCrc_iff {block : List Byte} (h : block.length = 35) (w : Word16) :
    block.drop 33 = [highByte w, lowByte w] ↔ 256 * (block.getD 33 0#8).toNat + (block.getD 34 0#8).toNat = w.toNat := by
  have hdrop : block.drop 33 = [block.getD 33 0#8, block.getD 34 0#8] := by
    apply List.ext_getElem
    · simp [h]
    · intro i hi hi'
      have : i < 2 := hi'
      interval_cases i <;> simp [h]
  have hlow := (block.getD 34 0#8).isLt
  rw [hdrop, List.cons.injEq, List.cons.injEq, ← BitVec.toNat_inj, ← BitVec.toNat_inj, highByte_toNat, lowByte_toNat]
  constructor
  · rintro ⟨hh, hl, -⟩
    rw [hh, hl]
    omega
  · intro hw
    refine ⟨?_, ?_, rfl⟩ <;> omega

/-- The ranges, one by one: the least moving demand is at most half of each of the three ceilings. -/
theorem Options.inRange_iff (o : Options) : o.inRange = true ↔
    (2 ≤ o.n ∧ o.n ≤ 24) ∧ (50 ≤ o.window ∧ o.window ≤ 2000)
      ∧ (o.window + 1 ≤ o.spreadBody ∧ o.spreadBody ≤ 10000)
      ∧ (o.spreadBody ≤ o.spreadSet ∧ o.spreadSet ≤ 20000)
      ∧ (100 ≤ o.vRaise ∧ o.vRaise ≤ 1000) ∧ (100 ≤ o.vLower ∧ o.vLower ≤ 1000)
      ∧ (20 ≤ o.dMin ∧ o.dMin ≤ o.vRaise / 2 ∧ o.dMin ≤ o.vLower / 2 ∧ o.dMin ≤ o.seatSpeed / 2)
      ∧ (5 ≤ o.ramp ∧ o.ramp ≤ 200) ∧ (50 ≤ o.seatSpeed ∧ o.seatSpeed ≤ 250)
      ∧ (10 ≤ o.parkDelay ∧ o.parkDelay ≤ 250) ∧ (20 ≤ o.creepLimit ∧ o.creepLimit ≤ 500)
      ∧ (100 ≤ o.unseatLift ∧ o.unseatLift ≤ 2000) ∧ o.bodyIndex ≤ 11
      ∧ (500 ≤ o.fullScale ∧ o.fullScale ≤ 4000) ∧ o.zero ≤ 400 ∧ 5 ≤ o.contactThreshold
      ∧ (1 ≤ o.releaseThreshold ∧ o.releaseThreshold + 1 ≤ o.contactThreshold)
      ∧ (o.contactThreshold + 1 ≤ o.overloadLimit ∧ o.overloadLimit ≤ o.fullScale)
      ∧ (5 ≤ o.brakeReleaseTime ∧ o.brakeReleaseTime ≤ 50) := by
  have hleast : o.dMin ≤ min (min o.vRaise o.vLower) o.seatSpeed / 2
      ↔ o.dMin ≤ o.vRaise / 2 ∧ o.dMin ≤ o.vLower / 2 ∧ o.dMin ≤ o.seatSpeed / 2 := by omega
  simp only [Options.inRange, hleast, Bool.and_eq_true, decide_eq_true_eq, and_assoc]

theorem blockSound_iff (block : List Byte) : blockSound block = true ↔
    block.length = 35 ∧ 256 * (block.getD 33 0#8).toNat + (block.getD 34 0#8).toNat = (crc16 (block.take 33)).toNat
      ∧ (block.getD 0 0#8).toNat = 0x41 ∧ (block.getD 16 0#8).toNat ≤ 1 := by
  simp only [blockSound, Bool.and_eq_true, decide_eq_true_eq, blockByte, and_assoc]
  exact and_congr_right fun h => and_congr (storedCrc_iff h _) (and_congr decide_eq_true_iff decide_eq_true_iff)

theorem readOptions_iff (block : List Byte) (o : Options) :
    readOptions block = some o ↔ blockSound block = true ∧ o = blockFields block ∧ o.inRange = true := by
  unfold readOptions
  split
  · next h =>
    rw [Bool.and_eq_true] at h
    constructor
    · intro he
      cases he
      exact ⟨h.1, rfl, h.2⟩
    · rintro ⟨-, rfl, -⟩
      rfl
  · next h =>
    refine ⟨nofun, ?_⟩
    rintro ⟨hsound, rfl, hrange⟩
    exact absurd (Bool.and_eq_true_iff.2 ⟨hsound, hrange⟩) h

theorem blockFields_eq (block : List Byte) : blockFields block =
    (let byte := fun k => (block.getD k 0#8).toNat
     let word := fun k => 256 * byte k + byte (k + 1)
     { n := byte 1, window := word 2, spreadBody := word 4, spreadSet := word 6, vRaise := word 8,
       vLower := word 10, dMin := byte 12, ramp := byte 13, seatSpeed := byte 14, parkDelay := byte 15,
       policy := if byte 16 = 1 then .halt else .derate, creepLimit := word 17, unseatLift := word 19,
       bodyIndex := byte 21, fullScale := word 22, zero := word 24, contactThreshold := word 26,
       releaseThreshold := word 28, overloadLimit := word 30, brakeReleaseTime := byte 32 }) := by
  simp only [blockFields, blockWord, blockByte, Nat.mul_comm _ 256]
  rfl

/-- Settles O21: the block's checks and the fields' ranges, read one by one. -/
theorem optionBlockValidExactlyInRange : Obligations.OptionBlockValidExactlyInRange := by
  intro data block o
  refine ⟨⟨blockOf_length data, fun k hk j hj => blockOf_getMsbD data hk hj⟩, ?_⟩
  rw [readOptions_iff, blockSound_iff, blockFields_eq, Options.inRange_iff]
  simp only [and_assoc]

/-! ## The characters of the line -/

theorem characterLevels_eq (c : Byte) :
    characterLevels c = .drive :: (List.range 9).map (fun k => Level.ofBit ((1#1 ++ c).getLsbD k)) := by
  have hdata : (List.range 8).map (fun k => Level.ofBit ((1#1 ++ c).getLsbD k))
      = (List.range 8).map (fun k => Level.ofBit (c.getLsbD k)) :=
    List.map_congr_left fun k hk => by
      have hlt : k < 8 := List.mem_range.1 hk
      rw [BitVec.getLsbD_append, if_pos hlt]
  have hstop : Level.ofBit ((1#1 ++ c).getLsbD 8) = .idle := by rw [BitVec.getLsbD_append]; rfl
  rw [List.range_succ, List.map_append, hdata, List.map_singleton, hstop]
  rfl

theorem readCharacter_iff (levels : BitVec 9) (c : Byte) : readCharacter levels = some c ↔ levels = 1#1 ++ c := by
  constructor
  · intro h
    unfold readCharacter at h
    split at h
    · next hstop =>
      cases h
      apply BitVec.eq_of_getLsbD_eq
      intro i hi
      rw [BitVec.getLsbD_append]
      split
      · next hlt => simp [hlt]
      · have : i = 8 := by omega
        subst this
        simpa using hstop
    · cases h
  · rintro rfl
    have hstop : (1#1 ++ c).getLsbD 8 = true := by rw [BitVec.getLsbD_append]; rfl
    rw [readCharacter_some _ hstop]
    exact congrArg some BitVec.extractLsb'_append_eq_right

/-! ## The frames -/

/-- The bytes checked against their own CRC pass the check. -/
theorem checkedBody_frame (body : List Byte) :
    checkedBody body.length (body ++ [highByte (crc16 body), lowByte (crc16 body)]) = some body := by
  simp [checkedBody]

theorem highByte_append_lowByte (w : Word16) : highByte w ++ lowByte w = w :=
  (BitVec.extractLsb'_append_extractLsb'_eq_extractLsb' (x := w) (start₁ := 0) (len₁ := 8) (len₂ := 8) rfl).trans
    BitVec.extractLsb'_eq_self

theorem extractLsb'_append_three (w : BitVec 24) :
    w.extractLsb' 16 8 ++ w.extractLsb' 8 8 ++ w.extractLsb' 0 8 = w := by
  have hhigh : w.extractLsb' 16 8 ++ w.extractLsb' 8 8 = w.extractLsb' 8 (8 + 8) :=
    BitVec.extractLsb'_append_extractLsb'_eq_extractLsb' rfl
  rw [hhigh]
  exact (BitVec.extractLsb'_append_extractLsb'_eq_extractLsb' (x := w) (start₁ := 0) (len₁ := 8) (len₂ := 16) rfl).trans
    BitVec.extractLsb'_eq_self

/-! The three bytes of flags and small fields, read back (R197). -/

theorem ReportFields.byte4_read (r : ReportFields) : r.byte4.extractLsb' 0 4 = r.stateCode ∧ r.byte4.getLsbD 4 = r.slow
    ∧ r.byte4.getLsbD 5 = r.prompt ∧ r.byte4.getLsbD 6 = r.fresh ∧ r.byte4.getLsbD 7 = r.liftPresent := by
  have hbits : ∀ (a b c d : Bool) (x : BitVec 4), let y : Byte := bit a ++ bit b ++ bit c ++ bit d ++ x
      y.extractLsb' 0 4 = x ∧ y.getLsbD 4 = d ∧ y.getLsbD 5 = c ∧ y.getLsbD 6 = b ∧ y.getLsbD 7 = a := by decide
  exact hbits _ _ _ _ _

theorem ReportFields.byte5_read (r : ReportFields) : r.byte5.getLsbD 0 = r.supplyLow ∧ r.byte5.getLsbD 1 = r.upperEnd
    ∧ r.byte5.getLsbD 2 = r.lowerEnd ∧ r.byte5.getLsbD 3 = r.conflict ∧ r.byte5.getLsbD 4 = r.safety
    ∧ r.byte5.getLsbD 5 = r.motion ∧ r.byte5.getLsbD 6 = r.group ∧ r.byte5.getLsbD 7 = r.clashOrSurplus := by
  have hbits : ∀ a b c d e f g h : Bool, let y : Byte := bit a ++ bit b ++ bit c ++ bit d ++ bit e ++ bit f ++ bit g ++ bit h
      y.getLsbD 0 = h ∧ y.getLsbD 1 = g ∧ y.getLsbD 2 = f ∧ y.getLsbD 3 = e ∧ y.getLsbD 4 = d ∧ y.getLsbD 5 = c
        ∧ y.getLsbD 6 = b ∧ y.getLsbD 7 = a := by decide
  exact hbits _ _ _ _ _ _ _ _

theorem ReportFields.byte6_read (r : ReportFields) : r.byte6.extractLsb' 0 4 = r.bodyIndex
    ∧ r.byte6.extractLsb' 4 2 = r.reserved ∧ r.byte6.extractLsb' 6 2 = r.startCause := by
  have hbits : ∀ (a b : BitVec 2) (x : BitVec 4), let y : Byte := a ++ b ++ x
      y.extractLsb' 0 4 = x ∧ y.extractLsb' 4 2 = b ∧ y.extractLsb' 6 2 = a := by decide
  exact hbits _ _ _

/-- The kind of a frame and the station number share a byte (R196). -/
theorem kind_append_station (kind : BitVec 3) (station : BitVec 5) :
    (kind ++ station : Byte).extractLsb' 5 3 = kind ∧ (kind ++ station : Byte).extractLsb' 0 5 = station :=
  ⟨BitVec.extractLsb'_append_eq_left, BitVec.extractLsb'_append_eq_right⟩

theorem ReportFields.ofBody_body (r : ReportFields) : ReportFields.ofBody r.body = some r := by
  obtain ⟨-, hstation⟩ := kind_append_station 1#3 r.station
  simp only [ReportFields.ofBody, ReportFields.body, highByte_append_lowByte, extractLsb'_append_three, hstation,
    r.byte4_read, r.byte5_read, r.byte6_read]

theorem RequestFields.ofBody_body (q : RequestFields) : RequestFields.ofBody q.body = some q := by
  obtain ⟨-, hstation⟩ := kind_append_station 2#3 q.station
  simp only [RequestFields.ofBody, RequestFields.body, highByte_append_lowByte, hstation]

/-! A frame's own characters at the receiver, by the kind in its first byte (R171, R172). -/

theorem receive_of_kind_one {c1 : Byte} {rest : List Byte} (hlow : 1 ≤ (c1.extractLsb' 0 5).toNat)
    (hhigh : (c1.extractLsb' 0 5).toNat ≤ 24) (hkind : c1.extractLsb' 5 3 = 1#3) :
    receive (startCharacter :: c1 :: rest) = ((checkedBody 17 (c1 :: rest)).bind ReportFields.ofBody).map Frame.report := by
  rw [receive, if_pos ⟨rfl, hlow, hhigh⟩, hkind]
  rfl

theorem receive_of_kind_two {c1 : Byte} {rest : List Byte} (hlow : 1 ≤ (c1.extractLsb' 0 5).toNat)
    (hhigh : (c1.extractLsb' 0 5).toNat ≤ 24) (hkind : c1.extractLsb' 5 3 = 2#3) :
    receive (startCharacter :: c1 :: rest) = ((checkedBody 4 (c1 :: rest)).bind RequestFields.ofBody).map Frame.request := by
  rw [receive, if_pos ⟨rfl, hlow, hhigh⟩, hkind]
  rfl

theorem receive_report {r : ReportFields} (hlow : 1 ≤ r.station.toNat) (hhigh : r.station.toNat ≤ 24) :
    receive r.chars = some (.report r) := by
  obtain ⟨hkind, hstation⟩ := kind_append_station 1#3 r.station
  have hchecked : checkedBody 17 (r.body ++ [highByte (crc16 r.body), lowByte (crc16 r.body)]) = some r.body :=
    checkedBody_frame r.body
  refine (receive_of_kind_one (hstation.symm ▸ hlow) (hstation.symm ▸ hhigh) hkind).trans ?_
  show ((checkedBody 17 (r.body ++ [highByte (crc16 r.body), lowByte (crc16 r.body)])).bind _).map _ = _
  rw [hchecked, Option.bind_some, r.ofBody_body]
  rfl

theorem receive_request {q : RequestFields} (hlow : 1 ≤ q.station.toNat) (hhigh : q.station.toNat ≤ 24) :
    receive q.chars = some (.request q) := by
  obtain ⟨hkind, hstation⟩ := kind_append_station 2#3 q.station
  have hchecked : checkedBody 4 (q.body ++ [highByte (crc16 q.body), lowByte (crc16 q.body)]) = some q.body :=
    checkedBody_frame q.body
  refine (receive_of_kind_two (hstation.symm ▸ hlow) (hstation.symm ▸ hhigh) hkind).trans ?_
  show ((checkedBody 4 (q.body ++ [highByte (crc16 q.body), lowByte (crc16 q.body)])).bind _).map _ = _
  rw [hchecked, Option.bind_some, q.ofBody_body]
  rfl

/-- Settles O42: each field is read back from its bits, and the CRC computed from the same bytes. -/
theorem framesDecodeToTheirFields : Obligations.FramesDecodeToTheirFields :=
  ⟨fun _ hlow hhigh => ⟨rfl, receive_report hlow hhigh, frameLevels_length _⟩,
    fun _ hlow hhigh => ⟨rfl, receive_request hlow hhigh, frameLevels_length _⟩,
    fun c levels => ⟨characterLevels_eq c, readCharacter_iff levels c⟩⟩

end Sys2Proof.Machine
end

section
/-! Access to the line: the frame of the front token, its content and its bit times. -/

namespace Sys2Proof.Machine

/-! ## What an own report carries -/

theorem clampLift_eq (x : Int) : clampLift x = (max 0 (min 200000 x)).toNat := by
  unfold clampLift
  omega

theorem clampLift_le (x : Int) : clampLift x ≤ 200000 := by
  unfold clampLift
  omega

theorem Slot.holds_eq (k : RequestKind) (x : Option Slot) : Slot.holds k x = (x.map Slot.kind == some k) := by
  cases x <;> rfl

theorem State.conflictIndication_eq (s : State) : s.conflictIndication
    = (s.request.slots.toList.any (fun x => x.map Slot.kind == some .raise)
      && s.request.slots.toList.any (fun x => x.map Slot.kind == some .lower)) := by
  simp only [State.conflictIndication, State.command, Slot.command, ← Slot.holds_eq]
  cases s.request.slots.toList.any (Slot.holds .raise) <;> cases s.request.slots.toList.any (Slot.holds .lower) <;> rfl

theorem Cause.summaryHas_safety (set : List Cause) :
    Cause.summaryHas .safety set = set.any (fun c => decide (1 ≤ c.code ∧ c.code ≤ 5)) :=
  congrArg set.any (funext fun c => by cases c <;> rfl)

theorem Cause.summaryHas_motion (set : List Cause) :
    Cause.summaryHas .motion set = set.any (fun c => decide (6 ≤ c.code ∧ c.code ≤ 10)) :=
  congrArg set.any (funext fun c => by cases c <;> rfl)

theorem Cause.summaryHas_group (set : List Cause) :
    Cause.summaryHas .group set = set.any (fun c => decide (11 ≤ c.code ∧ c.code ≤ 17)) :=
  congrArg set.any (funext fun c => by cases c <;> rfl)

theorem State.surplus_eq (s : State) : s.surplus = (!s.ctrl.assembled
    && (s.ctrl.state == .assembling || s.ctrl.state == .jog)
    && s.start.config.any (fun o => decide (o.n - 1 < s.peers.entries.toList.countP (fun e => e.eligible s.start.digest)))) := by
  unfold State.surplus State.eligibleCount
  cases s.start.config <;> simp

theorem State.ownLift_eq (s : State) :
    s.ownLift = s.ctrl.contact.map (fun c => (max 0 (min 200000 (s.meas.stroke - c))).toNat) := by
  simp only [State.ownLift, State.unclampedLift, Option.map_map]
  exact congrArg (Option.map · s.ctrl.contact) (funext fun c => clampLift_eq _)

theorem State.ownLift_isSome (s : State) : s.ownLift.isSome = s.ctrl.contact.isSome := by
  rw [State.ownLift_eq, Option.isSome_map]

/-- The fields of an own report, each from its block (R179). -/
theorem State.carriesTheBlocks (s : State) (prompt : Bool) : CarriesTheBlocks s prompt (s.reportFields prompt) := by
  have hslow : (s.ctrl.state.period == .slow) = (s.ctrl.state == .parked || s.ctrl.state == .configFault) := by
    cases s.ctrl.state <;> rfl
  have hlift := s.ownLift_eq
  unfold CarriesTheBlocks State.reportFields
  rw [s.ownLift_isSome, s.conflictIndication_eq, Cause.summaryHas_safety, Cause.summaryHas_motion, Cause.summaryHas_group,
    State.clashOrSurplus, s.surplus_eq, hslow, hlift, PeerTable.clashHeld]
  have hcode : BitVec.ofNat 4 s.ctrl.state.code = (match s.ctrl.state with
      | .start => 0 | .configFault => 1 | .assembling => 2 | .ready => 3 | .jog => 4 | .seating => 5
      | .holding => 6 | .lifting => 7 | .lowering => 8 | .parked => 9 | .unseating => 10 | .halted => 11 : BitVec 4) := by
    cases s.ctrl.state <;> rfl
  rw [hcode]
  cases s.start.startCause <;> rfl

theorem State.ownLift_le (s : State) : s.ownLift.getD 0 ≤ 200000 := by
  unfold State.ownLift
  cases s.unclampedLift with
  | none => exact Nat.zero_le _
  | some x => exact clampLift_le x

/-- A cause's code gives its place in the catalogue (R104). -/
theorem Cause.catalogue (c : Cause) : 1 ≤ c.code ∧ c.code ≤ 17
    ∧ [Cause.estop, .overtravel, .overload, .sensor, .supplyLow, .creep, .stall, .unseat, .spreadSet, .spreadBody,
        .peerLost, .peerRestart, .duplicate, .babble, .configMismatch, .busBlocked, .peerHalted][c.code - 1]? = some c := by
  cases c <;> decide

theorem toNat_ofNat_of_lt {n x : Nat} (h : x < 2 ^ n) : (BitVec.ofNat n x).toNat = x := by
  rw [BitVec.toNat_ofNat, Nat.mod_eq_of_lt h]

theorem State.reportFields_firstCause {s : State} {f : FirstCause} (h : s.halt.first = some f) (prompt : Bool) :
    (s.reportFields prompt).firstCause = BitVec.ofNat 8 f.cause.code
      ∧ (s.reportFields prompt).origin = BitVec.ofNat 8 f.origin := by
  simp only [State.reportFields, h]
  exact ⟨rfl, rfl⟩

/-- Each cause belongs to one of the three classes (R112). -/
theorem Cause.summary_of_mem {c : Cause} {set : List Cause} (h : c ∈ set) :
    (Cause.summaryHas .safety set || Cause.summaryHas .motion set || Cause.summaryHas .group set) = true := by
  have hany (k : CauseClass) (hk : c.causeClass = k) : Cause.summaryHas k set = true :=
    List.any_eq_true.2 ⟨c, h, by rw [hk]; cases k <;> rfl⟩
  cases hk : c.causeClass with
  | safety => rw [hany _ hk]; rfl
  | motion => rw [hany _ hk]; simp
  | group => rw [hany _ hk]; simp

/-- The fields hold their values without loss in lawful states. -/
theorem State.readsBackAsItStands (s : State) (prompt : Bool) : ReadsBackAsItStands s (s.reportFields prompt) := by
  refine ⟨fun hl => ⟨?station, ?index⟩, fun hu => ?unit, ?lift, fun hl => ⟨?velocity, ?load⟩, fun f hf => ?cause,
    fun f hf ho => ?origin, fun hl hc hst => ?fault, fun hl hst => ?outside, fun hl hst => ?inside⟩
  case station =>
    obtain ⟨-, -, -, -, hnumber, -⟩ := hl
    refine toNat_ofNat_of_lt ?_
    unfold State.ownNumber
    cases h : s.start.stationNumber with
    | none => exact Nat.two_pow_pos 5
    | some n => exact (hnumber n h).2.trans_lt (by norm_num)
  case index =>
    obtain ⟨-, -, -, -, -, hrange⟩ := hl
    refine toNat_ofNat_of_lt ?_
    cases h : s.start.config with
    | none => exact Nat.two_pow_pos 4
    | some o =>
      obtain ⟨-, -, -, -, -, -, -, -, -, -, -, -, hindex, -⟩ := o.inRange_iff.1 (hrange o h)
      exact hindex.trans_lt (by norm_num)
  case unit => exact toNat_ofNat_of_lt hu
  case lift => exact toNat_ofNat_of_lt (s.ownLift_le.trans_lt (by norm_num))
  case velocity =>
    obtain ⟨-, ⟨hlow, hhigh⟩, -⟩ := hl
    exact BitVec.toInt_ofInt_eq_self (by norm_num) (by norm_num; omega) (by norm_num; omega)
  case load =>
    obtain ⟨-, -, hload, -⟩ := hl
    exact toNat_ofNat_of_lt (hload.trans_lt (by norm_num))
  case cause =>
    obtain ⟨hlow, hhigh, hplace⟩ := f.cause.catalogue
    rw [(State.reportFields_firstCause hf prompt).1, toNat_ofNat_of_lt (hhigh.trans_lt (by norm_num))]
    exact ⟨hlow, hplace⟩
  case origin =>
    rw [(State.reportFields_firstCause hf prompt).2, toNat_ofNat_of_lt (ho.trans_lt (by norm_num))]
  case fault =>
    obtain ⟨hconfig, hdigest, -⟩ := hl
    obtain ⟨hcontact, -⟩ := hc
    have hnoConfig : s.start.config = none := by simpa [hst, StationState.isOperating] using hconfig
    have hnoDigest : s.start.digest = none := by simpa [hst, StationState.isOperating] using hdigest
    have hnoContact : s.ctrl.contact.isSome = false := by
      rw [hcontact (by rw [hst]; simp), hst]
      rfl
    refine ⟨?_, ?_, s.ownLift_isSome.trans hnoContact⟩
    · simp only [State.reportFields, hnoDigest]
      rfl
    · simp only [State.reportFields, hnoConfig]
      rfl
  case outside =>
    obtain ⟨hfirst, -, hempty, -⟩ := hl
    have hnoFirst : s.halt.first = none := by simpa [beq_eq_decide, hst] using hfirst
    have hnoCauses : s.halt.causes = [] := by simpa [bne, beq_eq_decide, hst] using hempty
    simp only [State.reportFields, hnoFirst, hnoCauses]
    exact ⟨rfl, rfl, rfl, rfl, rfl⟩
  case inside =>
    obtain ⟨hfirst, hmem, -⟩ := hl
    obtain ⟨f, hf⟩ : ∃ f, s.halt.first = some f := Option.isSome_iff_exists.1 (by rw [hfirst, hst]; rfl)
    obtain ⟨hlow, hhigh, -⟩ := f.cause.catalogue
    refine ⟨fun hzero => ?_, Cause.summary_of_mem (hmem f hf)⟩
    have hcode := congrArg BitVec.toNat ((State.reportFields_firstCause hf prompt).1.symm.trans hzero)
    rw [toNat_ofNat_of_lt (hhigh.trans_lt (by norm_num))] at hcode
    exact absurd hcode (by simp; omega)

/-! ## The front token -/

theorem Bus.isEmpty_iff (b : Bus) : b.isEmpty = true
    ↔ b.enteredAt .report = none ∧ b.enteredAt .clear = none ∧ b.enteredAt .motion = none := by
  rcases b with ⟨report, motion, clear, _⟩
  cases report <;> cases motion <;> cases clear <;> simp [Bus.isEmpty, Bus.enteredAt]

/-- Of two tokens the older, and the first of the two at equal moments (R175). -/
theorem Bus.older_cases {x y : Option (Place × Time)} {z : Place × Time} (h : Bus.older x y = some z) :
    (x = some z ∧ ∀ a ∈ y, z.2 ≤ a.2) ∨ (y = some z ∧ ∀ a ∈ x, z.2 < a.2) := by
  unfold Bus.older at h
  split at h
  · next a b =>
    split at h
    · next hlt =>
      cases h
      exact .inr ⟨rfl, fun a' ha => by cases ha; exact hlt⟩
    · next hge =>
      cases h
      exact .inl ⟨rfl, fun b' hb => by cases hb; exact Nat.le_of_not_lt hge⟩
  · exact .inl ⟨h, fun _ hb => by cases hb⟩
  · exact .inr ⟨h, fun _ ha => by cases ha⟩

/-- Neither of two tokens is older than the one chosen. -/
theorem Bus.older_le (x y : Option (Place × Time)) :
    ∀ a, a ∈ x ∨ a ∈ y → ∃ z, Bus.older x y = some z ∧ z.2 ≤ a.2 := by
  intro a ha
  cases hz : Bus.older x y with
  | none =>
    unfold Bus.older at hz
    split at hz
    · split at hz <;> cases hz
    · cases hz
    · subst hz
      rcases ha with ha | ha <;> cases ha
  | some z =>
    refine ⟨z, rfl, ?_⟩
    rcases Bus.older_cases hz with ⟨hx, hle⟩ | ⟨hy, hlt⟩
    · rcases ha with ha | ha
      · rw [hx] at ha
        cases ha
        exact le_rfl
      · exact hle a ha
    · rcases ha with ha | ha
      · exact (hlt a ha).le
      · rw [hy] at ha
        cases ha
        exact le_rfl

/-- The front token where no report carries the prompt mark: the oldest, by place at equal moments (R175). -/
theorem Bus.front_oldest {b : Bus} {p : Place} (hprompt : b.report.any ReportToken.prompt = false)
    (hfront : b.front = some p) : ∃ entered, b.enteredAt p = some entered
      ∧ (∀ x ∈ b.enteredAt .report, entered ≤ x ∧ (entered = x → p = .report))
      ∧ (∀ x ∈ b.enteredAt .clear, entered ≤ x ∧ (entered = x → p ≠ .motion))
      ∧ (∀ x ∈ b.enteredAt .motion, entered ≤ x) := by
  rw [Bus.front, if_neg (by simp [hprompt])] at hfront
  obtain ⟨⟨p', t⟩, holder, rfl⟩ := Option.map_eq_some_iff.1 hfront
  have htoken {q : Place} {z : Place × Time} (h : (b.enteredAt q).map (Prod.mk q) = some z) :
      z.1 = q ∧ b.enteredAt q = some z.2 := by
    obtain ⟨x, hx, rfl⟩ := Option.map_eq_some_iff.1 h
    exact ⟨rfl, hx⟩
  have hmem {q : Place} {x : Time} (h : x ∈ b.enteredAt q) : (q, x) ∈ (b.enteredAt q).map (Prod.mk q) :=
    Option.mem_map_of_mem _ h
  have hsame {q : Place} {x y : Time} (h : b.enteredAt q = some y) (hx : x ∈ b.enteredAt q) : y = x :=
    Option.some.inj (h.symm.trans hx)
  rcases Bus.older_cases holder with ⟨hinner, hmotion⟩ | ⟨hmotion, hinner⟩
  · rcases Bus.older_cases hinner with ⟨hreport, hclear⟩ | ⟨hclear, hreport⟩
    · obtain ⟨rfl, hentered⟩ := htoken hreport
      exact ⟨t, hentered, fun x hx => ⟨(hsame hentered hx).le, fun _ => rfl⟩,
        fun x hx => ⟨hclear _ (hmem hx), fun _ h => Place.noConfusion h⟩, fun x hx => hmotion _ (hmem hx)⟩
    · obtain ⟨rfl, hentered⟩ := htoken hclear
      exact ⟨t, hentered, fun x hx => ⟨(hreport _ (hmem hx)).le, fun he => absurd he (hreport _ (hmem hx)).ne⟩,
        fun x hx => ⟨(hsame hentered hx).le, fun _ h => Place.noConfusion h⟩, fun x hx => hmotion _ (hmem hx)⟩
  · obtain ⟨rfl, hentered⟩ := htoken hmotion
    have hafter {q : Place} {x : Time} (h : (q, x) ∈ (b.enteredAt .report).map (Prod.mk .report)
        ∨ (q, x) ∈ (b.enteredAt .clear).map (Prod.mk .clear)) : t < x := by
      obtain ⟨z, hz, hle⟩ := Bus.older_le _ _ _ h
      exact (hinner z hz).trans_le hle
    exact ⟨t, hentered, fun x hx => ⟨(hafter (.inl (hmem hx))).le, fun he => absurd he (hafter (.inl (hmem hx))).ne⟩,
      fun x hx => ⟨(hafter (.inr (hmem hx))).le, fun he => absurd he (hafter (.inr (hmem hx))).ne⟩,
      fun x hx => (hsame hentered hx).le⟩

/-- A queue that holds a token has a front. -/
theorem Bus.front_of_not_empty {b : Bus} (h : b.isEmpty = false) : ∃ p, b.front = some p := by
  have hsome : ∃ z, Bus.older (Bus.older ((b.enteredAt .report).map (Prod.mk .report))
      ((b.enteredAt .clear).map (Prod.mk .clear))) ((b.enteredAt .motion).map (Prod.mk .motion)) = some z := by
    have htoken : ¬(b.enteredAt .report = none ∧ b.enteredAt .clear = none ∧ b.enteredAt .motion = none) := fun hnone => by
      rw [b.isEmpty_iff.2 hnone] at h
      cases h
    cases hr : b.enteredAt .report with
    | some x =>
      obtain ⟨z, hz, -⟩ := Bus.older_le ((some x).map (Prod.mk Place.report)) ((b.enteredAt .clear).map (Prod.mk .clear))
        _ (.inl rfl)
      obtain ⟨w, hw, -⟩ := Bus.older_le _ ((b.enteredAt .motion).map (Prod.mk .motion)) z (.inl hz)
      exact ⟨w, hw⟩
    | none =>
      cases hc : b.enteredAt .clear with
      | some x =>
        obtain ⟨w, hw, -⟩ := Bus.older_le ((some x).map (Prod.mk Place.clear)) ((b.enteredAt .motion).map (Prod.mk .motion))
          _ (.inl rfl)
        exact ⟨w, hw⟩
      | none =>
        cases hm : b.enteredAt .motion with
        | some x => exact ⟨_, rfl⟩
        | none => exact absurd ⟨hr, hc, hm⟩ htoken
  unfold Bus.front
  split
  · exact ⟨_, rfl⟩
  · obtain ⟨z, hz⟩ := hsome
    exact ⟨z.1, by rw [hz]; rfl⟩

/-! ## The bit times of a frame -/

/-- The bit times of a frame, by the character and the place within it (R170). -/
theorem frameLevels_getD (chars : List Byte) {j i : Nat} (hj : j < chars.length) (hi : i < 10) :
    (frameLevels chars).getD (10 * j + i) .idle = (characterLevels (chars.getD j 0#8)).getD i .idle := by
  induction chars generalizing j with
  | nil => exact absurd hj (Nat.not_lt_zero _)
  | cons c cs ih =>
    have hlength := characterLevels_length c
    show (characterLevels c ++ frameLevels cs).getD (10 * j + i) .idle = _
    cases j with
    | zero => rw [List.getD_append _ _ _ _ (by omega)]; simp
    | succ j =>
      rw [List.getD_append_right _ _ _ _ (by omega), hlength]
      have hplace : 10 * (j + 1) + i - 10 = 10 * j + i := by omega
      rw [hplace, ih (Nat.lt_of_succ_lt_succ hj)]
      rfl

theorem characterLevels_getD (c : Byte) : (characterLevels c).getD 0 .idle = .drive
    ∧ (∀ k < 8, (characterLevels c).getD (1 + k) .idle = if c.getLsbD k then .idle else .drive)
    ∧ (characterLevels c).getD 9 .idle = .idle := by
  refine ⟨rfl, fun k hk => ?_, rfl⟩
  interval_cases k <;> rfl

/-- The levels driven through an attempt, from its beginning (R170). -/
theorem Bus.drivenLevel_attempt {b : Bus} {a : Attempt} (h : b.attempt = some a) (x : Nat) :
    b.drivenLevel (a.began + x) = (frameLevels a.frame).getD x .idle := by
  unfold Bus.drivenLevel
  rw [h]
  dsimp only
  rw [if_pos (Nat.le_add_right _ _), Nat.add_sub_cancel_left]

/-- The frame on the line: start bit, data bits and stop bit of each character, and the idle level after the last (R170). -/
theorem Bus.drivenLevel_frame {b : Bus} {a : Attempt} (h : b.attempt = some a) {j : Nat} (hj : j < a.frame.length) :
    (∀ k < 8, b.drivenLevel (a.began + 10 * j + 1 + k) = if (a.frame.getD j 0#8).getLsbD k then .idle else .drive)
      ∧ b.drivenLevel (a.began + 10 * j) = .drive ∧ b.drivenLevel (a.began + 10 * j + 9) = .idle
      ∧ b.drivenLevel (a.began + 10 * a.frame.length + j) = .idle := by
  obtain ⟨hstart, hdata, hstop⟩ := characterLevels_getD (a.frame.getD j 0#8)
  have hlevel {i : Nat} (hi : i < 10) : b.drivenLevel (a.began + 10 * j + i)
      = (characterLevels (a.frame.getD j 0#8)).getD i .idle := by
    rw [Nat.add_assoc, Bus.drivenLevel_attempt h, frameLevels_getD _ hj hi]
  refine ⟨fun k hk => ?_, (hlevel (by omega : 0 < 10)).trans hstart, (hlevel (by omega : 9 < 10)).trans hstop, ?_⟩
  · rw [Nat.add_assoc, hlevel (Nat.add_lt_add_left hk 1 |>.trans (by decide : 1 + 8 < 10)), hdata k hk]
  · rw [Nat.add_assoc, Bus.drivenLevel_attempt h]
    exact List.getD_eq_default _ _ (by rw [frameLevels_length]; exact Nat.le_add_right _ _)

/-! ## Access -/

/-- The frame of a place's token, by its code (R179, R198). -/
theorem State.frameOf_eq (s : State) (p : Place) : s.frameOf p = match p with
    | .report => (s.reportFields (s.bus.report.any ReportToken.prompt)).chars
    | .motion => (s.requestFields (if s.bus.motion.map MotionToken.kind = some .lower then 2 else 1)).chars
    | .clear => (s.requestFields 3).chars := by
  cases p with
  | report => rfl
  | clear => rfl
  | motion =>
    have hcode : (s.bus.motion.map (fun t => t.kind.code)).getD codeRaise
        = if s.bus.motion.map MotionToken.kind = some .lower then 2 else 1 := by
      cases s.bus.motion with
      | none => rfl
      | some x => rcases x with ⟨_ | _, _, _⟩ <;> rfl
    exact congrArg (fun code => (s.requestFields code).chars) hcode

/-- Settles O55: the front token, its frame's content and its bit times. -/
theorem accessBeginsWithTheFrontToken : Obligations.AccessBeginsWithTheFrontToken := by
  intro s w hrun hattempt hwait hqueue
  obtain ⟨p, hfront⟩ := Bus.front_of_not_empty hqueue
  have hmoment : s.accessMoment = some (max w s.bus.idleFrom + (24 + 2 * (s.ownNumber - 1)) + s.bus.retryOffset) := by
    rw [State.accessMoment, hattempt, hfront, hwait]
    rfl
  have hexec : execAccessGained s = .next
      ((s.tick (max w s.bus.idleFrom + (24 + 2 * (s.ownNumber - 1)) + s.bus.retryOffset)).beginAttempt p) := by
    rw [execAccessGained, State.onTimer_eq hrun hmoment, State.tick_bus, hfront]
  refine ⟨_, p, hexec, rfl, ?state, ⟨s.carriesTheBlocks _, s.readsBackAsItStands _⟩, fun _ => rfl, ?before, ?levels,
    fun hprompt => ?prompt, fun hprompt => Bus.front_oldest hprompt hfront⟩
  case state =>
    have hidle : max s.bus.idleFrom
        (max s.now (max w s.bus.idleFrom + (24 + 2 * (s.ownNumber - 1)) + s.bus.retryOffset) + Timing.character)
        = max s.now (max w s.bus.idleFrom + (24 + 2 * (s.ownNumber - 1)) + s.bus.retryOffset) + 10 := by
      unfold Timing.character Time
      omega
    rw [State.beginAttempt, State.frameOf_eq, State.tick_bus, State.tick_now, hidle]
    rfl
  case before =>
    unfold Bus.drivenLevel
    rw [hattempt]
  case levels =>
    intro a ha j hj
    have := Bus.drivenLevel_frame ha hj
    cases ha
    exact this
  case prompt =>
    rw [Bus.front, if_pos hprompt] at hfront
    exact (Option.some.inj hfront).symm

end Sys2Proof.Machine
end

section
/-! The deadlines of the peer table and the request table, and the frames that are discarded or mark an entry. -/

namespace Sys2Proof.Machine

/-! ## A frame at the receiver -/

theorem Bus.takesFrame_of {b : Bus} {now : Time} {chars : List Byte}
    (h : b.receiver = .takingFrame ∨ b.idleFrom + (12 + 10 * chars.length) ≤ now) : b.takesFrame now chars = true := by
  rcases h with h | h
  · simp [Bus.takesFrame, h]
  · have hidle : b.idleFrom + Timing.frameIdle + Timing.character * chars.length ≤ now := by
      rw [Nat.add_assoc]
      exact h
    simp [Bus.takesFrame, hidle]

theorem State.received_report {s : State} {r : ReportFields} (hlow : 1 ≤ r.station.toNat) (hhigh : r.station.toNat ≤ 24)
    (htaken : s.bus.receiver = .takingFrame ∨ s.bus.idleFrom + 212 ≤ s.now) :
    s.received r.chars = some (.report r) := by
  rw [State.received_taken _ _ (Bus.takesFrame_of htaken), receive_report hlow hhigh]

theorem State.received_request {s : State} {q : RequestFields} (hlow : 1 ≤ q.station.toNat) (hhigh : q.station.toNat ≤ 24)
    (htaken : s.bus.receiver = .takingFrame ∨ s.bus.idleFrom + 82 ≤ s.now) :
    s.received q.chars = some (.request q) := by
  rw [State.received_taken _ _ (Bus.takesFrame_of htaken), receive_request hlow hhigh]

/-- The part with a frame's arrival on the line taken at a moment (R171). -/
def State.arrived (s : State) (m : Time) : State := (s.tick m).arrive

theorem execReportFrame_eq {s : State} {m : Time} {r : ReportFields} (hrun : s.start.resetHeld = false)
    (hlow : 1 ≤ r.station.toNat) (hhigh : r.station.toNat ≤ 24)
    (htaken : s.bus.receiver = .takingFrame ∨ s.bus.idleFrom + 212 ≤ max s.now m) :
    execReportFrame m r.chars s = .next ((s.arrived m).examineReport r) := by
  have hreceived : (s.tick m).received r.chars = some (.report r) := State.received_report hlow hhigh htaken
  rw [execReportFrame, State.onEvent_running _ _ _ hrun, hreceived]
  rfl

/-- The own-number checks: the echo of an own frame, a clash, or a frame of another station (R58 to R60). -/
theorem State.ownChecks_other {s : State} {n u : Nat} {rest : State → State} (hop : s.ctrl.state.isOperating = true)
    (hne : n ≠ s.ownNumber) : s.ownChecks n u rest = rest s := by
  rw [State.ownChecks, if_neg (by simp [hop]), if_neg hne]

theorem State.ownChecks_echo {s : State} {n u : Nat} {rest : State → State} (hown : n = s.ownNumber)
    (hunit : u = s.start.unitNumber) : s.ownChecks n u rest = s := by
  rw [State.ownChecks, if_pos hown, if_pos hunit, ite_self]

theorem State.ownChecks_clash {s : State} {n u : Nat} {rest : State → State} (hop : s.ctrl.state.isOperating = true)
    (hown : n = s.ownNumber) (hunit : u ≠ s.start.unitNumber) : s.ownChecks n u rest = s.numberClash := by
  rw [State.ownChecks, if_neg (by simp [hop]), if_pos hown, if_neg hunit]

theorem State.ownChecks_silent {s : State} {n u : Nat} {rest : State → State} (hop : s.ctrl.state.isOperating = false) :
    s.ownChecks n u rest = s := by
  rw [State.ownChecks, if_pos (by simp [hop])]

/-- A report at another station's entry. -/
theorem State.examineReport_at {s : State} {r : ReportFields} {c : Content} {e : Entry} (hc : r.content = some c)
    (hop : s.ctrl.state.isOperating = true) (hne : r.station.toNat ≠ s.ownNumber)
    (hget : Table.get s.peers.entries r.station.toNat = some e) :
    s.examineReport r = s.reportAtEntry r.station.toNat e c r.prompt := by
  rw [State.examineReport, hc]
  dsimp only
  rw [State.ownChecks_other hop hne, hget]

theorem execRequest_eq {s : State} {m : Time} {q : RequestFields} {isCode : Byte → Bool} {rest : Nat → Nat → State → State}
    (hrun : s.start.resetHeld = false) (hlow : 1 ≤ q.station.toNat) (hhigh : q.station.toNat ≤ 24)
    (htaken : s.bus.receiver = .takingFrame ∨ s.bus.idleFrom + 82 ≤ max s.now m) (hcode : isCode q.code = true) :
    s.onEvent m (fun s => s.onRequest q.chars isCode rest)
      = .next ((s.arrived m).ownChecks q.station.toNat q.unitNumber.toNat (rest q.station.toNat q.unitNumber.toNat)) := by
  have hreceived : (s.tick m).received q.chars = some (.request q) := State.received_request hlow hhigh htaken
  rw [State.onEvent_running _ _ _ hrun, State.onRequest, hreceived]
  exact congrArg _ (if_pos hcode)

/-! ## Frames without effect -/

/-- The content of a report carries the frame's unit number (R57). -/
theorem ReportFields.content_unitNumber {r : ReportFields} {c : Content} (h : r.content = some c) :
    c.unitNumber = r.unitNumber.toNat := by
  unfold ReportFields.content at h
  split at h
  · split at h
    · obtain ⟨f, -, rfl⟩ := Option.map_eq_some_iff.1 h
      rfl
    · cases h
  · cases h

section Discarded

variable {s : State} {m : Time} {chars : List Byte} (hrun : s.start.resetHeld = false)
include hrun

theorem execReportFrame_ignored (h : (s.tick m).received chars = none) :
    execReportFrame m chars s = .next (s.arrived m) := by
  rw [execReportFrame, State.onEvent_running _ _ _ hrun, h]
  rfl

theorem execRequest_ignored (isCode : Byte → Bool) (rest : Nat → Nat → State → State)
    (h : (s.tick m).received chars = none) :
    s.onEvent m (fun s => s.onRequest chars isCode rest) = .next (s.arrived m) := by
  rw [State.onEvent_running _ _ _ hrun, State.onRequest, h]
  rfl

/-- No check is made in START and CONFIG_FAULT (R52). -/
theorem execReportFrame_silent (hop : s.ctrl.state.isOperating = false) :
    execReportFrame m chars s = .next (s.arrived m) := by
  rw [execReportFrame, State.onEvent_running _ _ _ hrun]
  split
  · next r _ =>
    unfold State.examineReport
    split
    · rw [State.ownChecks_silent (s := (s.tick m).arrive) hop]
      rfl
    · rfl
  · rfl

theorem execRequest_silent (isCode : Byte → Bool) (rest : Nat → Nat → State → State)
    (hop : s.ctrl.state.isOperating = false) :
    s.onEvent m (fun s => s.onRequest chars isCode rest) = .next (s.arrived m) := by
  rw [State.onEvent_running _ _ _ hrun]
  unfold State.onRequest
  split
  · split
    · rw [State.ownChecks_silent (s := (s.tick m).arrive) hop]
      rfl
    · rfl
  · rfl

/-- A report the receiver may hand on changes nothing where its examination changes nothing. -/
theorem execReportFrame_of_examined {r : ReportFields} (hlow : 1 ≤ r.station.toNat) (hhigh : r.station.toNat ≤ 24)
    (h : (s.arrived m).examineReport r = s.arrived m) : execReportFrame m r.chars s = .next (s.arrived m) := by
  cases htakes : s.bus.takesFrame (max s.now m) r.chars with
  | false => exact execReportFrame_ignored hrun (State.received_ignored _ _ htakes)
  | true =>
    have hreceived : (s.tick m).received r.chars = some (.report r) :=
      (State.received_taken _ _ htakes).trans (receive_report hlow hhigh)
    rw [execReportFrame, State.onEvent_running _ _ _ hrun, hreceived]
    exact congrArg _ h

theorem execRequest_of_checked {q : RequestFields} {isCode : Byte → Bool} {rest : Nat → Nat → State → State}
    (hlow : 1 ≤ q.station.toNat) (hhigh : q.station.toNat ≤ 24)
    (h : (s.arrived m).ownChecks q.station.toNat q.unitNumber.toNat (rest q.station.toNat q.unitNumber.toNat)
      = s.arrived m) :
    s.onEvent m (fun s => s.onRequest q.chars isCode rest) = .next (s.arrived m) := by
  cases htakes : s.bus.takesFrame (max s.now m) q.chars with
  | false => exact execRequest_ignored hrun isCode rest (State.received_ignored _ _ htakes)
  | true =>
    have hreceived : (s.tick m).received q.chars = some (.request q) :=
      (State.received_taken _ _ htakes).trans (receive_request hlow hhigh)
    rw [State.onEvent_running _ _ _ hrun, State.onRequest, hreceived]
    dsimp only
    split
    · exact congrArg _ h
    · rfl

end Discarded

/-- Settles O45: where the receiver hands nothing on, and where each check discards. -/
theorem discardedFramesChangeNothingElse : Obligations.DiscardedFramesChangeNothingElse := by
  intro s m hrun
  refine ⟨fun chars h => ?nothing, fun r hlow hhigh h => ?report, fun q hlow hhigh h => ?request,
    fun q hlow hhigh _ _ _ hne => ?other⟩
  case nothing =>
    have hcases : (s.tick m).received chars = none ∨ s.ctrl.state.isOperating = false := by
      rcases h with h | h | ⟨hwaits, hsoon⟩
      · refine .inl ?_
        rw [State.received, h, ite_self]
      · exact .inr h
      · refine .inl (State.received_ignored _ _ ?_)
        have hlate : ¬s.bus.idleFrom + Timing.frameIdle + Timing.character * chars.length ≤ max s.now m := not_le.2 hsoon
        simp [Bus.takesFrame, hwaits, hlate]
    rcases hcases with h | h
    · exact ⟨execReportFrame_ignored hrun h, execRequest_ignored hrun _ _ h, execRequest_ignored hrun _ _ h,
        execRequest_ignored hrun _ _ h, execRequest_ignored hrun _ _ h⟩
    · exact ⟨execReportFrame_silent hrun h, execRequest_silent hrun _ _ h, execRequest_silent hrun _ _ h,
        execRequest_silent hrun _ _ h, execRequest_silent hrun _ _ h⟩
  case report =>
    refine execReportFrame_of_examined hrun hlow hhigh ?_
    cases hc : r.content with
    | none => exact State.examineReport_of_none _ _ hc
    | some c =>
      have hunit := ReportFields.content_unitNumber hc
      rcases h with h | ⟨hown, hu⟩ | ⟨hne, e, hget, hfresh, hfaulty, he⟩
      · rw [hc] at h
        cases h
      · rw [State.examineReport, hc]
        exact State.ownChecks_echo hown (hunit.trans hu)
      · cases hop : s.ctrl.state.isOperating with
        | false =>
          rw [State.examineReport, hc]
          exact State.ownChecks_silent hop
        | true =>
          rw [State.examineReport_at (s := s.arrived m) hc hop hne hget, State.reportAtEntry, if_neg, if_pos ⟨hfresh, hfaulty⟩]
          rintro ⟨-, hother⟩
          exact hother (he.trans (congrArg some hunit.symm))
  case request =>
    have hchecked (rest : State → State) (hrest : (∃ e, Table.get s.peers.entries q.station.toNat = some e
        ∧ s.acceptsRequest e q.unitNumber.toNat = false) → rest (s.arrived m) = s.arrived m) :
        (s.arrived m).ownChecks q.station.toNat q.unitNumber.toNat rest = s.arrived m := by
      rcases h with ⟨hown, hu⟩ | ⟨hne, e, hget, hrejects⟩
      · exact State.ownChecks_echo hown hu
      · cases hop : s.ctrl.state.isOperating with
        | false => exact State.ownChecks_silent hop
        | true =>
          refine (State.ownChecks_other (s := s.arrived m) hop hne).trans (hrest ⟨e, hget, ?_⟩)
          unfold State.acceptsRequest
          rcases hrejects with h | h | h | h <;> simp [h]
    have htake (k : RequestKind) : (∃ e, Table.get s.peers.entries q.station.toNat = some e
        ∧ s.acceptsRequest e q.unitNumber.toNat = false) →
        (s.arrived m).takeRequest q.station.toNat q.unitNumber.toNat k = s.arrived m := by
      rintro ⟨e, hget, hrejects⟩
      have hget' : Table.get (s.arrived m).peers.entries q.station.toNat = some e := hget
      have hrejects' : (s.arrived m).acceptsRequest e q.unitNumber.toNat = false := hrejects
      simp [State.takeRequest, hget', hrejects']
    have hclear : (∃ e, Table.get s.peers.entries q.station.toNat = some e
        ∧ s.acceptsRequest e q.unitNumber.toNat = false) →
        (s.arrived m).takeClear q.station.toNat q.unitNumber.toNat = s.arrived m := by
      rintro ⟨e, hget, hrejects⟩
      have hget' : Table.get (s.arrived m).peers.entries q.station.toNat = some e := hget
      have hrejects' : (s.arrived m).acceptsRequest e q.unitNumber.toNat = false := hrejects
      simp [State.takeClear, hget', hrejects']
    exact ⟨fun _ => execRequest_of_checked hrun hlow hhigh (hchecked _ (htake .raise)),
      fun _ => execRequest_of_checked hrun hlow hhigh (hchecked _ (htake .lower)),
      fun _ => execRequest_of_checked hrun hlow hhigh (hchecked _ hclear)⟩
  case other =>
    refine execRequest_of_checked hrun hlow hhigh ?_
    cases hop : s.ctrl.state.isOperating with
    | false => exact State.ownChecks_silent hop
    | true => exact State.ownChecks_other hop hne

end Sys2Proof.Machine
end

section
/-! Entries marked by a frame or a deadline: the cause of a member's fault, or the transitions that follow. -/

namespace Sys2Proof.Machine

/-! ## A part at a later moment -/

/-- The part at a moment, with the line's part of its bus interface. -/
def State.later (s : State) (now : Time) (receiver : Receiver) (idleFrom : Time) : State :=
  { s with now := now, bus := { s.bus with receiver := receiver, idleFrom := idleFrom } }

theorem State.tick_eq_later (s : State) (t : Time) : s.tick t = s.later (max s.now t) s.bus.receiver s.bus.idleFrom := rfl

theorem State.arrived_eq_later (s : State) (m : Time) :
    s.arrived m = s.later (max s.now m) .waitingForIdle (max s.bus.idleFrom (max s.now m)) := rfl

/-- The peer table of a part at a later moment, written. -/
theorem MovesFrom.later {s : State} {now : Time} {receiver : Receiver} {idleFrom : Time} {entries : Vector Entry 24} :
    MovesFrom s { s.later now receiver idleFrom with peers := { s.peers with entries := entries } } :=
  ⟨rfl, rfl, rfl, rfl, rfl, rfl, rfl, rfl, rfl, rfl, rfl, rfl, rfl, .inl rfl⟩

/-! ## An entry that is not sound -/

theorem State.assemblyHolds_putEntry {s : State} {n : Nat} {e : Entry} (hrange : 1 ≤ n ∧ n ≤ 24)
    (hmember : e.member = true) (hsound : e.sound s.start.digest = false) : (s.putEntry n e).assemblyHolds = false := by
  have hmem : e ∈ (Table.put s.peers.entries n e).toList := Table.get_mem _ _ _ (Table.get_put_same _ _ _ hrange)
  have hall : (Table.put s.peers.entries n e).toList.all (fun x => !x.member || x.sound s.start.digest) = false := by
    rw [List.all_eq_false]
    exact ⟨e, hmem, by simp [hmember, hsound]⟩
  simp [State.assemblyHolds, hall]

theorem Table.range_of_get {α : Type} {t : Vector α 24} {n : Nat} {x : α} (h : Table.get t n = some x) :
    1 ≤ n ∧ n ≤ 24 := by
  by_contra hout
  simp [Table.get, hout] at h

/-- An entry written with the member mark it had leaves every mark. -/
theorem Table.map_member_put {t : Vector Entry 24} {n : Nat} {e e' : Entry} (hget : Table.get t n = some e)
    (hmember : e'.member = e.member) : (Table.put t n e').toList.map Entry.member = t.toList.map Entry.member := by
  have hrange := Table.range_of_get hget
  have hentry : t.toList[n - 1]? = some e := by
    rw [Table.get_of_range _ _ hrange] at hget
    cases hget
    simp
  have hplace : (t.toList.map Entry.member)[n - 1]? = some e.member := by
    rw [List.getElem?_map, hentry]
    rfl
  rw [Table.toList_put _ _ _ hrange, List.map_set, hmember]
  apply List.ext_getElem?
  intro j
  rw [List.getElem?_set]
  split
  · next h =>
    subst h
    split
    · exact hplace.symm
    · next hout =>
      rw [List.getElem?_eq_none (Nat.le_of_not_lt hout)] at hplace
      cases hplace
  · rfl

/-- An entry written and the part settled: the transitions that follow, and nothing else. -/
theorem State.putEntry_settle (s : State) (n : Nat) (e' : Entry) (now : Time) (receiver : Receiver) (idleFrom : Time) :
    let t := ((s.later now receiver idleFrom).putEntry n e').settle
    t.now = now ∧ t.start = s.start ∧ t.meas.stroke = s.meas.stroke ∧ t.peers.clashHold = s.peers.clashHold
      ∧ OnlyMotionFollows s t ∧ SettlesFrom (s.putEntry n e') t := by
  generalize hx : (s.later now receiver idleFrom).putEntry n e' = x
  have hfrom : MovesFrom s x := by rw [← hx]; exact MovesFrom.later
  have hxctrl : x.ctrl = s.ctrl := by rw [← hx]; rfl
  have hxnow : x.now = now := by rw [← hx]; rfl
  have hsettles : SettlesFrom (s.putEntry n e') x.settle := by
    have := x.settlesFrom_settleFrom x.ctrl.state
    rw [← hx] at this ⊢
    exact this
  have hfollows : OnlyMotionFollows s x.settle := by
    have := hfrom.onlyMotionFollows
    rwa [← hxctrl] at this
  exact ⟨(x.settleFrom_now _).trans hxnow, hfollows.1,
    (x.settleFrom_measured _).1.trans (congrArg Measurement.stroke hfrom.meas_eq), hfollows.2.2.1, hfollows, hsettles⟩

/-- A member's fault at an entry written: the cause is taken in the states that raise it, and elsewhere the part settles. -/
theorem State.memberFault_settle {s : State} {n : Nat} {e e' : Entry} {c : Cause} (now : Time) (receiver : Receiver)
    (idleFrom : Time) (hget : Table.get s.peers.entries n = some e) (hmember : e'.member = e.member)
    (hc : c ≠ .peerHalted) (hsound : e.member = true → e'.sound s.start.digest = false) :
    let taken : State := s.putEntry n e'
    let t := (((s.later now receiver idleFrom).putEntry n e').memberFault e c).settle
    t.now = now ∧ t.start = s.start ∧ t.meas.stroke = s.meas.stroke ∧ t.peers.clashHold = s.peers.clashHold
      ∧ (e.member = true → s.ctrl.state.raisesPeerCauses = true →
          TakesCauses s t [c] c s.ownNumber ∧ t.peers = taken.peers ∧ t.request = s.request)
      ∧ (e.member = false ∨ s.ctrl.state.raisesPeerCauses = false → OnlyMotionFollows s t ∧ SettlesFrom taken t)
      ∧ (e.member = true → s.ctrl.state = .ready → EntersAssembling taken t)
      ∧ (e.member = true → s.ctrl.assembled = true → s.ctrl.state = .jog → LosesFlagInJog s t) := by
  intro taken
  generalize hx : (s.later now receiver idleFrom).putEntry n e' = x
  have hfrom : MovesFrom s x := by rw [← hx]; exact MovesFrom.later
  have hxctrl : x.ctrl = s.ctrl := by rw [← hx]; rfl
  have hxpeers : x.peers = taken.peers := by rw [← hx]; rfl
  have hxrequest : x.request = s.request := by rw [← hx]; rfl
  have hxnow : x.now = now := by rw [← hx]; rfl
  have horigin : x.originOf c 0 = s.ownNumber := by
    rw [State.originOf, if_neg hc, ← hx]
    rfl
  obtain ⟨hnow, hstart, hstroke, hclash, hfollows, hsettles⟩ :=
    s.putEntry_settle n e' now receiver idleFrom
  rw [hx] at hnow hstart hstroke hclash hfollows hsettles
  cases hraises : e.member && s.ctrl.state.raisesPeerCauses with
  | true =>
    have hfault : x.memberFault e c = x.takeCauses [c] := by
      rw [State.memberFault, hxctrl, if_pos hraises]
    obtain ⟨hm, hst⟩ := Bool.and_eq_true_iff.1 hraises
    have hhalts : HaltsAs s x := ⟨hxctrl, (by rw [← hx]; rfl), hfrom.spent_eq, fun h => hfrom.attempt_eq.trans h,
      by rw [hxpeers]; exact Table.map_member_put hget hmember, by rw [hxrequest], by rw [hxrequest]⟩
    have hrest := x.takeCauses_resting (causes := [c]) (by simp) 0
    have htakes := (hhalts.takesCauses (causes := [c]) rfl 0).settle hrest
    rw [horigin] at htakes
    obtain ⟨hn, hs, hp, hr, -, -, -, hx, -⟩ := x.takeCauses_frame [c] 0
    rw [hfault]
    refine ⟨?now, ?start, ?stroke, ?clash, fun _ _ => ⟨htakes, ?peers, ?request⟩, fun h => ?quiet, fun _ h => ?ready,
      fun _ _ h => ?jog⟩
    case quiet => simp [hm, hst] at h
    case ready => rw [h] at hst; cases hst
    case jog => rw [h] at hst; cases hst
    all_goals rw [State.settle_of_resting hrest]
    case now => exact hn.trans hxnow
    case start => exact hs.trans hfrom.start_eq
    case stroke => exact hx.trans (congrArg Measurement.stroke hfrom.meas_eq)
    case clash => exact (congrArg PeerTable.clashHold hp).trans hfrom.clash_eq
    case peers => exact hp.trans hxpeers
    case request => exact hr.trans hxrequest
  | false =>
    have hfault : x.memberFault e c = x := by
      rw [State.memberFault, hxctrl, hraises, if_neg Bool.false_ne_true]
    have hholds (hm : e.member = true) : taken.assemblyHolds = false :=
      State.assemblyHolds_putEntry (Table.range_of_get hget) (hmember.trans hm) (hsound hm)
    rw [hfault]
    refine ⟨hnow, hstart, hstroke, hclash, fun hm hst => ?_, fun _ => ⟨hfollows, hsettles⟩,
      fun hm hst => hsettles.entersAssembling hst (hholds hm),
      fun hm hset hst => hsettles.losesFlagInJog hst hset (hholds hm)⟩
    rw [hm, hst] at hraises
    cases hraises

/-! ## The stale deadline -/

/-- Settles O52: a running deadline makes the entry STALE, which is not sound. -/
theorem staleDeadlineLosesTheMember : Obligations.StaleDeadlineLosesTheMember := by
  intro s n e due hrun hget
  have hdeadline : s.staleDeadlineOf n = e.staleDeadline := by rw [State.staleDeadlineOf, hget, Option.bind_some]
  refine ⟨fun hstopped => ?stopped, fun hdue => ?expires⟩
  case stopped =>
    show execStaleDeadlineExpiry n s = _
    rw [execStaleDeadlineExpiry, hdeadline, hstopped, State.onTimer_stopped]
  case expires =>
    have hexec : execStaleDeadlineExpiry n s
        = .next (((s.tick due).putEntry n e.goStale).memberFault e .peerLost).settle := by
      rw [execStaleDeadlineExpiry, State.onTimer_eq hrun (hdeadline.trans hdue), State.tick_peers, hget]
    exact ⟨_, hexec, State.memberFault_settle (max s.now due) s.bus.receiver s.bus.idleFrom hget rfl (by simp) fun _ => rfl⟩

/-! ## Duplicates and early reports -/

/-- Less than a quarter of the entry's period since its last scheduled arrival (R66). -/
theorem Entry.isEarly_of {e : Entry} {now last : Time} {old : Content} (hlast : e.lastScheduled = some last)
    (hold : e.content = some old) (hsoon : now < last + (if old.period = .fast then 5000 else 125000)) :
    e.isEarly now = true := by
  unfold Entry.isEarly
  rw [hlast, hold]
  refine decide_eq_true ?_
  cases hp : old.period with
  | fast => rwa [hp] at hsoon
  | slow => rwa [hp] at hsoon

/-- Settles O47: the timing test before an acceptance; a second early report is a fault of its entry. -/
theorem secondEarlyReportMakesTheEntryFaulty : Obligations.SecondEarlyReportMakesTheEntryFaulty := by
  intro s m r c old e last hrun hop hlow hhigh hc hne htaken hget hfresh hsound hold hunit hlast hprompt hsoon
  have hearly : e.isEarly (max s.now m) = true := Entry.isEarly_of hlast hold hsoon
  have htakes : e.takesUnit c.unitNumber = false := by simp [Entry.takesUnit, hfresh]
  have hallowance : e.onAllowance r.prompt = false := by
    unfold Entry.onAllowance
    rcases hprompt with h | h <;> simp [h]
  have hsame : ¬(e.status = .fresh ∧ e.content.map Content.unitNumber ≠ some c.unitNumber) := fun h =>
    h.2 (by rw [hold, Option.map_some, hunit])
  have hreport : (s.arrived m).reportAtEntry r.station.toNat e c r.prompt = (s.arrived m).earlyReport r.station.toNat e := by
    unfold State.reportAtEntry
    rw [if_neg hsame, if_neg (by simp [hsound]), htakes]
    dsimp only
    rw [if_neg Bool.false_ne_true, hallowance, if_neg Bool.false_ne_true]
    exact if_pos hearly
  have hexec : execReportFrame m r.chars s = .next ((s.arrived m).earlyReport r.station.toNat e) := by
    rw [execReportFrame_eq hrun hlow hhigh htaken, State.examineReport_at (s := s.arrived m) hc hop hne hget, hreport]
  refine ⟨_, hexec, ?_⟩
  by_cases he : e.early = true
  · have hsecond : (s.arrived m).earlyReport r.station.toNat e
        = (((s.arrived m).putEntry r.station.toNat { e with faulty := true }).memberFault e .babble).settle := if_pos he
    obtain ⟨hnow, hstart, hstroke, hclash, hcauses, hquiet, hready, hjog⟩ := State.memberFault_settle (max s.now m)
      .waitingForIdle (max s.bus.idleFrom (max s.now m)) (c := .babble) (e' := { e with faulty := true }) hget rfl (by simp)
      (fun _ => by simp [Entry.sound])
    rw [hsecond, if_pos he]
    exact ⟨hnow, hstart, hstroke, hclash, fun _ => hcauses, fun h => hquiet (h.resolve_left (by simp [he])), fun _ => hready,
      fun _ => hjog⟩
  · have hfirst : (s.arrived m).earlyReport r.station.toNat e
        = ((s.arrived m).putEntry r.station.toNat { e with early := true }).settle := if_neg he
    obtain ⟨hnow, hstart, hstroke, hclash, hfollows, hsettles⟩ := s.putEntry_settle r.station.toNat { e with early := true }
      (max s.now m) .waitingForIdle (max s.bus.idleFrom (max s.now m))
    rw [hfirst, if_neg he]
    exact ⟨hnow, hstart, hstroke, hclash, fun h => absurd h he, fun _ => ⟨hfollows, hsettles⟩, fun h => absurd h he,
      fun h => absurd h he⟩

/-! ## The number clash -/

/-- The part with the number-clash indication held until a moment. -/
def State.clashing (s : State) (due : Time) : State :=
  { s with peers := { s.peers with clashHold := some due } }

theorem State.clashing_holds (s : State) (due : Time) :
    (s.clashing due).assemblyHolds = false ∧ (s.clashing due).groupAssembled = false := by
  have hheld : (s.clashing due).peers.clashHeld = true := rfl
  constructor
  · simp [State.assemblyHolds, hheld]
  · unfold State.groupAssembled
    split <;> simp [hheld]

/-- A clash held where it raises nothing: the assembly does not hold and cannot complete (R60). -/
theorem State.clashing_settles {s t : State} {due : Time} (hset : SettlesFrom (s.clashing due) t) :
    (s.ctrl.state = .ready → t.ctrl.state = .assembling ∧ t.ctrl.assembled = false)
      ∧ (s.ctrl.state = .jog → t.ctrl.state = .jog ∧ t.ctrl.assembled = false)
      ∧ (s.ctrl.state = .assembling → t.ctrl.state = .assembling ∧ t.peers.entries = s.peers.entries) := by
  obtain ⟨hholds, hgroup⟩ := s.clashing_holds due
  have hcompletes : (s.clashing due).completesAssembly = false := by simp [State.completesAssembly, hgroup]
  refine ⟨fun hst => ?_, fun hst => ?_, fun hst => ?_⟩
  · obtain ⟨hstate, hassembled, -⟩ := hset.entersAssembling hst hholds
    rw [hgroup] at hstate hassembled
    exact ⟨hstate, hassembled⟩
  · obtain ⟨hctrl, -⟩ := hset
    have hassembled : t.ctrl.assembled = (s.ctrl.assembled && !(s.clashing due).losesAssembly) := by
      rw [hctrl, hcompletes, Bool.false_or]
      rfl
    have hloses : (s.clashing due).losesAssembly = s.ctrl.assembled := by
      have hst' : (s.clashing due).ctrl.state = .jog := hst
      simp only [State.losesAssembly, hholds, hst']
      rfl
    have hrests : (s.clashing due).restsIn = .jog := by
      have hst' : (s.clashing due).ctrl.state = .jog := hst
      simp only [State.restsIn, hst']
    refine ⟨by rw [hctrl]; exact hrests, ?_⟩
    rw [hassembled, hloses, Bool.and_not_self]
  · obtain ⟨hctrl, hentries, -⟩ := hset
    have hst' : (s.clashing due).ctrl.state = .assembling := hst
    have hloses : (s.clashing due).losesAssembly = false := by simp [State.losesAssembly, hst']
    have hrests : (s.clashing due).restsIn = .assembling := by
      simp only [State.restsIn, hst', hcompletes]
      rfl
    rw [hcompletes, hloses, if_neg Bool.false_ne_true, if_neg Bool.false_ne_true] at hentries
    refine ⟨by rw [hctrl]; exact hrests, ?_⟩
    exact Vector.toList_inj.1 hentries

/-- A number clash taken at a frame's arrival (R59, R60). -/
theorem State.numberClash_holds (s : State) (m : Time) :
    (s.arrived m).numberClash.now = max s.now m ∧ HoldsClash s (s.arrived m).numberClash := by
  generalize hx : (s.arrived m).clashing (max s.now m + 1500000) = x
  have hclash : (s.arrived m).numberClash
      = (if s.ctrl.state.raisesPeerCauses then x.takeCauses [.duplicate] else x).settle := by rw [← hx]; rfl
  have hxnow : x.now = max s.now m := by rw [← hx]; rfl
  have hxstart : x.start = s.start := by rw [← hx]; rfl
  have hxmeas : x.meas = s.meas := by rw [← hx]; rfl
  have hxheld : x.peers.clashHold = some (max s.now m + 1500000) := by rw [← hx]; rfl
  have hhalts : HaltsAs s x := by rw [← hx]; exact ⟨rfl, rfl, rfl, id, rfl, rfl, rfl⟩
  have hhands : HandsFrom s x := by rw [← hx]; exact ⟨rfl, rfl, rfl, rfl, rfl, rfl, .inl rfl⟩
  have hxentries : x.peers.entries = s.peers.entries := by rw [← hx]; rfl
  have hxrequest : x.request = s.request := by rw [← hx]; rfl
  have hown : x.ownNumber = s.ownNumber := by rw [← hx]; rfl
  rw [hclash]
  cases hraises : s.ctrl.state.raisesPeerCauses with
  | true =>
    have hrest := x.takeCauses_resting (causes := [.duplicate]) (by simp) 0
    have htakes := (hhalts.takesCauses (causes := [.duplicate]) rfl 0).settle hrest
    have horigin : x.originOf .duplicate 0 = s.ownNumber := hown
    rw [horigin] at htakes
    obtain ⟨hn, hs, hp, hr, -, -, -, hstroke, -⟩ := x.takeCauses_frame [.duplicate] 0
    rw [if_pos rfl]
    refine ⟨?now, ?held, ?start, ?stroke, fun _ => ⟨htakes, ?entries, ?request⟩, fun h => ?quiet, fun h => ?ready, fun h => ?jog,
      fun h => ?assembling⟩
    case quiet => rw [hraises] at h; cases h
    case ready => rw [h] at hraises; cases hraises
    case jog => rw [h] at hraises; cases hraises
    case assembling => rw [h] at hraises; cases hraises
    all_goals rw [State.settle_of_resting hrest]
    case now => exact hn.trans hxnow
    case held =>
      refine ((congrArg PeerTable.clashHold hp).trans hxheld).trans ?_
      rw [State.refresh_now, hn, hxnow]
    case start => exact hs.trans hxstart
    case stroke => exact hstroke.trans (congrArg Measurement.stroke hxmeas)
    case entries => exact (congrArg PeerTable.entries hp).trans hxentries
    case request => exact hr.trans hxrequest
  | false =>
    have hctrl : x.ctrl = s.ctrl := hhalts.ctrl_eq
    have hsettle : x.settle = x.settleFrom s.ctrl.state := by rw [State.settle, hctrl]
    have hset : SettlesFrom (s.clashing (max s.now m + 1500000)) x.settle := by
      have := x.settlesFrom_settleFrom x.ctrl.state
      rw [← hx] at this ⊢
      exact this
    have hhold : x.settle.peers.clashHold = some (max s.now m + 1500000) := by
      rw [hsettle, x.settleFrom_peers]
      exact hxheld
    have hnow : x.settle.now = max s.now m := by rw [hsettle, x.settleFrom_now, hxnow]
    obtain ⟨hready, hjog, hassembling⟩ := State.clashing_settles hset
    rw [if_neg Bool.false_ne_true]
    refine ⟨hnow, by rw [hnow, hhold], ?start, ?stroke, fun h => ?raising, fun _ => ⟨?causes, ?first, ?hands, ?settles⟩,
      hready, hjog,
      hassembling⟩
    case raising => rw [hraises] at h; cases h
    case start => rw [hsettle, x.settleFrom_start, hxstart]
    case stroke => rw [hsettle, (x.settleFrom_measured _).1, hxmeas]
    case causes => rw [hsettle, x.settleFrom_halt_eq, hhalts.halt_eq]
    case first => rw [hsettle, x.settleFrom_halt_eq, hhalts.halt_eq]
    case hands => rw [hsettle]; exact hhands.handsOn
    case settles => rw [hhold]; exact hset

/-- Settles O46: the clash held by a frame of either kind, and the duplicate at an entry. -/
theorem clashAndDuplicateAreHeld1500Ms : Obligations.ClashAndDuplicateAreHeld1500Ms := by
  intro s m r c q hrun hop
  refine ⟨fun hc hlow hhigh htaken hown hunit => ?report, fun hlow hhigh htaken hown hunit => ?request,
    fun e hc hlow hhigh htaken hget hne hfresh hother => ?duplicate⟩
  case duplicate =>
    generalize hx : (((s.later (max s.now m) .waitingForIdle (max s.bus.idleFrom (max s.now m))).putEntry r.station.toNat
      { e with contested := true, contestDeadline := some (max s.now m + 1500000) }).memberFault e .duplicate).settle = x
    have hexec : execReportFrame m r.chars s = .next x := by
      rw [execReportFrame_eq hrun hlow hhigh htaken, State.examineReport_at (s := s.arrived m) hc hop hne hget,
        State.reportAtEntry, if_pos ⟨hfresh, hother⟩, ← hx]
      rfl
    obtain ⟨hnow, hrest⟩ := State.memberFault_settle (s := s) (max s.now m) .waitingForIdle
      (max s.bus.idleFrom (max s.now m)) (c := .duplicate)
      (e' := { e with contested := true, contestDeadline := some (max s.now m + 1500000) }) hget rfl (by simp)
      fun _ => by simp [Entry.sound]
    rw [hx] at hnow hrest
    refine ⟨x, hexec, hnow, ?_⟩
    rw [hnow]
    exact hrest
  case report =>
    have hexec : execReportFrame m r.chars s = .next (s.arrived m).numberClash := by
      rw [execReportFrame_eq hrun (by omega) (by omega) htaken, State.examineReport, hc]
      dsimp only
      rw [State.ownChecks_clash (s := s.arrived m) hop hown hunit]
    exact ⟨_, hexec, s.numberClash_holds m⟩
  case request =>
    have hanswer {isCode : Byte → Bool} {rest : Nat → Nat → State → State} (hcode : isCode q.code = true) :
        s.onEvent m (fun s => s.onRequest q.chars isCode rest) = .next (s.arrived m).numberClash := by
      rw [execRequest_eq hrun (by omega) (by omega) htaken hcode, State.ownChecks_clash (s := s.arrived m) hop hown hunit]
    refine ⟨_, ?_, s.numberClash_holds m⟩
    split
    · next h => exact hanswer (by rw [h]; rfl)
    · next hraise =>
      split
      · next h => exact hanswer (by rw [h]; rfl)
      · next hlower =>
        split
        · next h => exact hanswer (by rw [h]; rfl)
        · next hclear =>
          refine hanswer ?_
          rw [isOtherCode, codeRaise, codeLower, codeClear]
          simp [hraise, hlower, hclear]

end Sys2Proof.Machine
end

section
/-! The deadlines of the tables and the accepted requests and clears: the part settled after one write. -/

namespace Sys2Proof.Machine

/-! ## What settling leaves -/

theorem Bus.askPrompt_receiver (b : Bus) (now : Time) (p : PeriodClass) (restart : Bool) :
    (b.askPrompt now p restart).receiver = b.receiver := by
  unfold Bus.askPrompt Bus.judgePrompt Bus.beginWait Bus.restartTimer
  repeat' split
  all_goals rfl

/-- The parts of the bus interface a change of state leaves. -/
theorem State.settleFrom_quiet (s : State) (old : StationState) :
    (s.settleFrom old).bus.motion = s.bus.motion ∧ (s.settleFrom old).bus.clear = s.bus.clear
      ∧ (s.settleFrom old).bus.receiver = s.bus.receiver ∧ (s.settleFrom old).bus.idleFrom = s.bus.idleFrom := by
  rw [s.settleFrom_bus]
  split
  · obtain ⟨-, -, hidle, -, hmotion, hclear, -⟩ := s.bus.askPrompt_frame s.now s.restsIn.period
      (old == .parked || s.restsIn == .parked)
    exact ⟨hmotion, hclear, s.bus.askPrompt_receiver _ _ _, hidle⟩
  · exact ⟨rfl, rfl, rfl, rfl⟩

/-- A part whose state a command's own writes have left settles: what follows, and nothing else. -/
theorem MovesFrom.settles {s x : State} (h : MovesFrom s x) (hstate : x.ctrl.state = s.ctrl.state) :
    x.settle.now = x.now ∧ x.settle.start = s.start ∧ x.settle.meas.stroke = s.meas.stroke
      ∧ OnlyMotionFollows s x.settle ∧ SettlesFrom x x.settle
      ∧ x.settle.bus.motion = x.bus.motion ∧ x.settle.bus.clear = x.bus.clear
      ∧ x.settle.bus.receiver = x.bus.receiver ∧ x.settle.bus.idleFrom = x.bus.idleFrom := by
  have hsettle : x.settle = x.settleFrom s.ctrl.state := by rw [State.settle, hstate]
  rw [hsettle]
  refine ⟨x.settleFrom_now _, (x.settleFrom_start _).trans h.start_eq,
    (x.settleFrom_measured _).1.trans (congrArg Measurement.stroke h.meas_eq), h.onlyMotionFollows,
    x.settlesFrom_settleFrom _, x.settleFrom_quiet _⟩

/-- Where no assembly is lost the request table stands, and where none completes either, the peer table. -/
theorem SettlesFrom.request_kept {s t : State} (h : SettlesFrom s t) (hloses : s.losesAssembly = false) :
    t.request = s.request := by
  obtain ⟨-, -, hrequest, -⟩ := h
  rwa [hloses, if_neg Bool.false_ne_true] at hrequest

theorem SettlesFrom.entries_kept {s t : State} (h : SettlesFrom s t) (hloses : s.losesAssembly = false)
    (hcompletes : s.completesAssembly = false) : t.peers.entries = s.peers.entries := by
  obtain ⟨-, hentries, -⟩ := h
  rw [hcompletes, hloses, if_neg Bool.false_ne_true, if_neg Bool.false_ne_true] at hentries
  exact Vector.toList_inj.1 hentries

theorem SettlesFrom.state_eq {s t : State} (h : SettlesFrom s t) : t.ctrl.state = s.restsIn :=
  congrArg Controller.state h.1

theorem SettlesFrom.assembled_eq {s t : State} (h : SettlesFrom s t) :
    t.ctrl.assembled = (s.completesAssembly || (s.ctrl.assembled && !s.losesAssembly)) := by
  obtain ⟨hctrl, -⟩ := h
  rw [hctrl]

theorem State.losesAssembly_of_holds {s : State} (h : s.assemblyHolds = true) : s.losesAssembly = false := by
  simp [State.losesAssembly, h]

/-- An assembly completed in ASSEMBLING, with no RAISE to carry the station on. -/
theorem SettlesFrom.completes {s t : State} (h : SettlesFrom s t) (hst : s.ctrl.state = .assembling)
    (hgroup : s.groupAssembled = true) (hraise : s.command ≠ .raise) :
    t.ctrl.state = .ready ∧ t.ctrl.assembled = true ∧ t.ctrl.fresh = false
      ∧ ∀ y ∈ t.peers.entries.toList, y.member = y.eligible s.start.digest := by
  have hcompletes : s.completesAssembly = true := by simp [State.completesAssembly, hgroup, hst]
  have hrests : s.restsIn = .ready := by simp [State.restsIn, hst, hcompletes, hraise]
  obtain ⟨hctrl, hentries, -⟩ := h
  rw [hcompletes, hrests] at hctrl
  rw [if_pos hcompletes] at hentries
  refine ⟨congrArg Controller.state hctrl, by rw [hctrl]; rfl, by rw [hctrl]; simp, fun y hy => ?_⟩
  rw [hentries] at hy
  obtain ⟨e, -, rfl⟩ := List.mem_map.1 hy
  rfl

/-! ## Deadlines -/

/-- Settles O51: each deadline ends one thing, and the part settles under what is left. -/
theorem deadlinesEndWhatTheyHold : Obligations.DeadlinesEndWhatTheyHold := by
  intro s n x e due hrun
  refine ⟨fun hslot => ?slot, fun hget hdue => ?contest, fun hdue => ?clash, fun hdue => ?grace⟩
  case slot =>
    have hdue : (Table.get s.request.slots n).join.map (fun x => x.stamp + Timing.commandWindow)
        = some (x.stamp + 60000) := by rw [hslot]; rfl
    have hexec : execSlotWindowExpiry n s = .next ((s.tick (x.stamp + 60000)).putSlot n none).settle := by
      rw [execSlotWindowExpiry, State.onTimer_eq hrun hdue]
    generalize hy : (s.tick (x.stamp + 60000)).putSlot n none = y at hexec
    have hfrom : MovesFrom s y := by
      rw [← hy]
      exact ⟨rfl, rfl, rfl, rfl, rfl, rfl, rfl, rfl, rfl, rfl, rfl, rfl, rfl, .inl rfl⟩
    obtain ⟨hnow, -, -, hfollows, hsettles, hmotion, hclear, -⟩ := hfrom.settles (by rw [← hy]; rfl)
    have hempty : Table.get y.request.slots n = some none := by
      rw [← hy]
      exact Table.get_put_same _ _ _ (Table.range_of_get hslot)
    refine ⟨_, hexec, hnow.trans (by rw [← hy]; rfl), ?emptied, hfollows, hmotion.trans (by rw [← hy]; rfl),
      hclear.trans (by rw [← hy]; rfl), ?settles, fun hholds => ?kept, fun hst => ?halted⟩
    case emptied =>
      obtain ⟨-, -, hrequest, -⟩ := hsettles
      rw [hrequest]
      split
      · show Table.get (Vector.replicate 24 none) n = some none
        rw [Table.get_of_range _ _ (Table.range_of_get hslot), Vector.getElem_replicate]
      · exact hempty
    case settles => rw [← hy] at hsettles ⊢; exact hsettles
    case kept =>
      refine (hsettles.request_kept (State.losesAssembly_of_holds ?_)).trans (by rw [← hy]; rfl)
      rw [← hy]
      exact hholds
    case halted =>
      rw [State.settle_halted (by rw [← hy]; exact hst), ← hy]
      rfl
  case contest =>
    have hdeadline : s.contestDeadlineOf n = some due := by rw [State.contestDeadlineOf, hget, Option.bind_some, hdue]
    have hexec : execContestDeadlineExpiry n s
        = .next ((s.tick due).putEntry n { e with contested := false, contestDeadline := none }).settle := by
      rw [execContestDeadlineExpiry, State.onTimer_eq hrun hdeadline, State.tick_peers, hget]
    generalize hy : (s.tick due).putEntry n { e with contested := false, contestDeadline := none } = y at hexec
    have hfrom : MovesFrom s y := by
      rw [← hy]
      exact ⟨rfl, rfl, rfl, rfl, rfl, rfl, rfl, rfl, rfl, rfl, rfl, rfl, rfl, .inl rfl⟩
    obtain ⟨hnow, -, -, hfollows, hsettles, hmotion, hclear, -⟩ := hfrom.settles (by rw [← hy]; rfl)
    have htaken : SettlesFrom (s.putEntry n { e with contested := false, contestDeadline := none }) y.settle := by
      rw [← hy] at hsettles ⊢
      exact hsettles
    refine ⟨_, hexec, hnow.trans (by rw [← hy]; rfl), hfollows, hmotion.trans (by rw [← hy]; rfl),
      hclear.trans (by rw [← hy]; rfl), htaken, fun hst => ?halted, fun hst => htaken.completes hst⟩
    case halted =>
      rw [State.settle_halted (by rw [← hy]; exact hst), ← hy]
      rfl
  case clash =>
    have hexec : execClashHoldExpiry s
        = .next { s.tick due with peers := { s.peers with clashHold := none } }.settle := by
      rw [execClashHoldExpiry, State.onTimer_eq hrun hdue]
      rfl
    generalize hy : ({ s.tick due with peers := { s.peers with clashHold := none } } : State) = y at hexec
    have hfrom : HandsFrom s y := by rw [← hy]; exact ⟨rfl, rfl, rfl, rfl, rfl, rfl, .inl rfl⟩
    have hsettle : y.settle = y.settleFrom s.ctrl.state := by rw [State.settle, ← hy]; rfl
    have htaken : SettlesFrom { s with peers := { s.peers with clashHold := none } } y.settle := by
      have := y.settlesFrom_settleFrom s.ctrl.state
      rw [hsettle]
      rw [← hy] at this ⊢
      exact this
    have hhalt := y.settleFrom_halt s.ctrl.state
    refine ⟨_, hexec, ?now, ?released, ?start, ?stroke, ?causes, ?first, htaken, ?hands, fun hst => ?halted,
      fun hst => htaken.completes hst⟩
    case hands => rw [hsettle]; exact hfrom.handsOn
    case halted =>
      rw [State.settle_halted (by rw [← hy]; exact hst), ← hy]
      rfl
    all_goals rw [hsettle]
    case now => rw [y.settleFrom_now, ← hy]; rfl
    case released => rw [y.settleFrom_peers, ← hy]; rfl
    case start => rw [y.settleFrom_start, ← hy]; rfl
    case stroke => rw [(y.settleFrom_measured _).1, ← hy]; rfl
    case causes => rw [hhalt.1, ← hy]; rfl
    case first => rw [hhalt.2.1, ← hy]; rfl
  case grace =>
    show execClearGraceEnd s = _
    rw [execClearGraceEnd, State.onTimer_eq hrun hdue]
    rfl

/-! ## Accepted requests -/

/-- A table with a filled slot forms a command. -/
theorem State.command_of_slot {s : State} {n : Nat} {x : Slot} (h : Table.get s.request.slots n = some (some x)) :
    s.command ≠ .none := by
  intro hnone
  obtain ⟨hcommand, -⟩ := groupCommandFollowsFromTheTable s
  obtain ⟨hraise, hlower⟩ := hcommand.1 hnone
  cases hk : x.kind with
  | raise => exact hraise ⟨n, x, h, hk⟩
  | lower => exact hlower ⟨n, x, h, hk⟩

theorem State.takeRequest_accepted {s : State} {n u : Nat} {k : RequestKind} {e : Entry}
    (hget : Table.get s.peers.entries n = some e) (haccepts : s.acceptsRequest e u = true) :
    s.takeRequest n u k = (s.putSlot n (some { kind := k, stamp := s.now })).settle := by
  rw [State.takeRequest, hget]
  exact if_pos haccepts

theorem State.acceptsRequest_of {s : State} {e : Entry} {u : Nat} (hassembled : s.ctrl.assembled = true)
    (hmember : e.member = true) (hfaulty : e.faulty = false) (hunit : e.content.map Content.unitNumber = some u) :
    s.acceptsRequest e u = true := by
  simp [State.acceptsRequest, hassembled, hmember, hfaulty, hunit]

/-- Where the group command leads the states in which it moves the station (R23 to R26, R166). -/
theorem State.restsIn_led {s : State} (hst : s.ctrl.state = .holding ∨ s.ctrl.state = .lifting ∨ s.ctrl.state = .lowering
      ∨ s.ctrl.state = .parked) (hcommand : s.command ≠ .none) :
    s.restsIn = s.command.leadsTo s.membersPoised s.membersLanded := by
  rcases hst with h | h | h | h <;> simp only [State.restsIn, h, if_neg hcommand]

/-- Settles O49: the slot is filled, and the part settles under the command it forms. -/
theorem acceptedRequestFillsItsSlot : Obligations.AcceptedRequestFillsItsSlot := by
  intro s m q e k hrun hop hlow hhigh htaken hne hget hassembled hmember hfaulty hunit hcode
  have haccepts : (s.arrived m).acceptsRequest e q.unitNumber.toNat = true :=
    State.acceptsRequest_of hassembled hmember hfaulty hunit
  have htakes : (s.arrived m).ownChecks q.station.toNat q.unitNumber.toNat
        (fun s => s.takeRequest q.station.toNat q.unitNumber.toNat k)
      = ((s.arrived m).putSlot q.station.toNat (some { kind := k, stamp := max s.now m })).settle :=
    (State.ownChecks_other (s := s.arrived m) hop hne).trans
      (State.takeRequest_accepted (s := s.arrived m) hget haccepts)
  generalize hy : (s.arrived m).putSlot q.station.toNat (some { kind := k, stamp := max s.now m }) = y at htakes
  have hexec : exec (if k = .raise then .raiseFrame m q.chars else .lowerFrame m q.chars) s = .next y.settle := by
    rcases hcode with ⟨hc, rfl⟩ | ⟨hc, rfl⟩
    · exact (execRequest_eq hrun hlow hhigh htaken (by rw [hc]; rfl)).trans (congrArg _ htakes)
    · exact (execRequest_eq hrun hlow hhigh htaken (by rw [hc]; rfl)).trans (congrArg _ htakes)
  have hfrom : MovesFrom s y := by
    rw [← hy]
    exact ⟨rfl, rfl, rfl, rfl, rfl, rfl, rfl, rfl, rfl, rfl, rfl, rfl, rfl, .inl rfl⟩
  obtain ⟨hnow, hstart, hstroke, hfollows, hsettles, hmotion, hclear, hreceiver, hidle⟩ := hfrom.settles (by rw [← hy]; rfl)
  have hynow : y.now = max s.now m := by rw [← hy]; rfl
  refine ⟨_, hexec, hnow.trans hynow, hstart, hstroke, hreceiver.trans (by rw [← hy]; rfl), ?idle, hfollows,
    hmotion.trans (by rw [← hy]; rfl), hclear.trans (by rw [← hy]; rfl), ?rest⟩
  case idle => rw [hnow.trans hynow, hidle, ← hy]; rfl
  case rest =>
    have hclash := hfollows.2.2.1
    rw [hnow.trans hynow]
    generalize hasked : ({ s.request with
      slots := Table.put s.request.slots q.station.toNat (some { kind := k, stamp := max s.now m }) } : RequestUnit) = asked
    have hset : SettlesFrom { s with request := asked } y.settle := by
      rw [← hasked]
      rw [← hy] at hsettles ⊢
      exact hsettles
    have hfilled : Table.get asked.slots q.station.toNat = some (some { kind := k, stamp := max s.now m }) := by
      rw [← hasked]
      exact Table.get_put_same _ _ _ ⟨hlow, hhigh⟩
    have hcommand : ({ s with request := asked } : State).command ≠ .none := State.command_of_slot hfilled
    have hrests := hset.state_eq
    refine ⟨hset, fun hholds => ?holds, fun hst => ?halted, fun hst => ?led, fun hst hraise => ?unseatingRaise,
      fun hst hraise => ?unseating⟩
    case holds =>
      have hloses : ({ s with request := asked } : State).losesAssembly = false := State.losesAssembly_of_holds hholds
      refine ⟨hset.request_kept hloses, ?_, fun hst => ?_, fun hst => ?_⟩
      · rw [hset.assembled_eq, hloses]
        simp [hassembled]
      · have hentries := hset.entries_kept hloses (State.completesAssembly_eq_false hst hloses)
        exact congrArg₂ PeerTable.mk hentries hclash
      · rw [hrests]
        rcases hst with hst | hst <;> simp only [State.restsIn, hst, hloses, if_neg Bool.false_ne_true]
    case halted => rw [hrests]; simp only [State.restsIn, hst]
    case led =>
      rw [hrests, State.restsIn_led (s := { s with request := asked }) hst hcommand]
      generalize hc : ({ s with request := asked } : State).command = c at hcommand ⊢
      cases c with
      | none => exact absurd rfl hcommand
      | raise => rfl
      | lower => rfl
      | conflict => rfl
    case unseatingRaise =>
      rw [hrests]
      simp only [State.restsIn, hst, hraise, if_true]
      rfl
    case unseating =>
      rw [hrests]
      simp only [State.restsIn, hst, if_neg hraise]

/-! ## Clear attempts -/

/-- A successful clear attempt, in HALTED (R121, R122). -/
theorem State.clearAttempt_returns {x : State} (hst : x.ctrl.state = .halted) (hnone : x.remainingCauses = []) :
    let t := x.clearAttempt
    t.now = x.now ∧ t.start = x.start ∧ t.meas.stroke = x.meas.stroke ∧ t.bus = x.bus
      ∧ t.halt = { x.halt with causes := [], first := none, grace := some (x.now + 60000), faultLamp := false }
      ∧ t.ctrl.contact = x.ctrl.contact ∧ t.peers.clashHold = x.peers.clashHold
      ∧ HandsOn x t ∧ ReturnsFromHalt x t ∧ t.ctrl.state.isResting = false ∧ t.ctrl.state ≠ .parked := by
  have hattempt : x.clearAttempt = x.cleared.returnFromHalt.settleFrom .halted := by
    rw [State.clearAttempt, if_pos hst, hnone]
    rfl
  have hreturns : ReturnsFromHalt x x.clearAttempt := by
    rw [hattempt]
    exact x.cleared.returnsFromHalt
  generalize hy : x.cleared.returnFromHalt = y at hattempt
  have hstate : y.ctrl.state = .holding ∨ y.ctrl.state = .ready ∨ y.ctrl.state = .assembling := by
    rw [← hy]
    unfold State.returnFromHalt State.enterReady
    repeat' split
    all_goals simp
  have hmoves : MovesFrom x.cleared y := by
    rw [← hy]
    unfold State.returnFromHalt State.enterReady
    repeat' split
    all_goals exact { MovesFrom.refl x.cleared with state := .inr ⟨rfl, by simp⟩ }
  have hynow : y.now = x.now := by
    rw [← hy]
    unfold State.returnFromHalt State.enterReady
    repeat' split
    all_goals rfl
  have hybus : y.bus = x.bus := by
    rw [← hy]
    unfold State.returnFromHalt State.enterReady
    repeat' split
    all_goals rfl
  have hrests : y.restsIn.isResting = false ∧ y.restsIn ≠ .parked := by
    unfold State.restsIn GroupCommand.leadsTo
    rcases hstate with h | h | h <;> rw [h] <;> dsimp only <;> repeat' split
    all_goals simp [StationState.isResting]
  have hbus : (y.settleFrom .halted).bus = x.bus := by
    have hquiet : asksPrompt .halted y.restsIn = false := by
      cases hr : y.restsIn <;> simp_all [asksPrompt, StationState.isResting]
    rw [y.settleFrom_bus, hquiet, if_neg (by simp), hybus]
  have hlamp : y.restsIn.faultLampLit = false := by
    cases hr : y.restsIn <;> simp_all [StationState.faultLampLit, StationState.isResting]
  have hhands : HandsOn x (y.settleFrom .halted) := by
    have := hmoves.handsFrom.handsOn
    have hcleared : x.cleared.ctrl.state = .halted := hst
    rw [hcleared] at this
    exact this
  rw [hattempt] at hreturns ⊢
  refine ⟨(y.settleFrom_now _).trans hynow, (y.settleFrom_start _).trans hmoves.start_eq,
    (y.settleFrom_measured _).1.trans (congrArg Measurement.stroke hmoves.meas_eq), hbus, ?_,
    (y.settleFrom_contact _).trans hmoves.contact_eq, ?_, hhands, hreturns, by rw [y.settleFrom_state]; exact hrests⟩
  · rw [y.settleFrom_halt_eq, hmoves.halt_eq, hlamp]
    rfl
  · rw [y.settleFrom_peers]
    exact hmoves.clash_eq

/-- The returns of a clear that no transition follows (R17, R121). -/
theorem ReturnsFromHalt.rests {s t : State} (h : ReturnsFromHalt s t) (hclash : t.peers.clashHold = s.peers.clashHold) :
    (s.ctrl.contact.isSome = true → s.command = .none →
        t.ctrl.state = .holding ∧ t.request = s.request ∧ t.peers = s.peers)
      ∧ (s.ctrl.contact = none → s.ctrl.assembled = true → s.assemblyHolds = true →
        t.ctrl.state = (if s.command = .raise then .seating else .ready) ∧ t.request = s.request ∧ t.peers = s.peers)
      ∧ (s.ctrl.contact = none → s.ctrl.assembled = true → s.assemblyHolds = false → s.groupAssembled = false →
        t.ctrl.state = .assembling ∧ t.ctrl.assembled = false) := by
  obtain ⟨hholding, hready, -⟩ := h
  refine ⟨fun hsome hnone => ?_, fun hno hset hholds => ?_, fun hno hset hholds hgroup => ?_⟩
  · have hset := hholding hsome
    have hnone' : ({ s with ctrl := { s.ctrl with state := .holding } } : State).command = .none := hnone
    have hloses : ({ s with ctrl := { s.ctrl with state := .holding } } : State).losesAssembly = false := by
      simp [State.losesAssembly]
    have hentries := hset.entries_kept hloses (State.completesAssembly_eq_false (by simp) hloses)
    refine ⟨?_, hset.request_kept hloses, congrArg₂ PeerTable.mk hentries hclash⟩
    rw [hset.state_eq]
    simp only [State.restsIn, hnone', GroupCommand.leadsTo]
  · have hsettles := hready hno hset
    have hloses : ({ s with ctrl := { s.ctrl with state := .ready } } : State).losesAssembly = false :=
      State.losesAssembly_of_holds hholds
    have hentries := hsettles.entries_kept hloses (State.completesAssembly_eq_false (by simp) hloses)
    refine ⟨?_, hsettles.request_kept hloses, congrArg₂ PeerTable.mk hentries hclash⟩
    rw [hsettles.state_eq]
    simp only [State.restsIn, hloses, if_neg Bool.false_ne_true]
    rfl
  · obtain ⟨hstate, hassembled, -⟩ := (hready hno hset).entersAssembling rfl hholds
    have hgroup' : ({ s with ctrl := { s.ctrl with state := .ready } } : State).groupAssembled = false := hgroup
    rw [hgroup'] at hstate hassembled
    exact ⟨hstate, hassembled⟩

theorem State.takeClear_accepted {s : State} {n u : Nat} {e : Entry} (hget : Table.get s.peers.entries n = some e)
    (haccepts : s.acceptsRequest e u = true) :
    s.takeClear n u = if e.status = .fresh then s.clearAttempt else s := by
  rw [State.takeClear, hget]
  simp [haccepts]

/-- Settles O50: an accepted clear is an attempt in HALTED, which fails with the first cause left or returns. -/
theorem acceptedClearFrameMakesAClearAttempt : Obligations.AcceptedClearFrameMakesAClearAttempt := by
  intro s m q e hrun hop hlow hhigh htaken hne hget hassembled hmember hfaulty hunit hcode
  have haccepts : (s.arrived m).acceptsRequest e q.unitNumber.toNat = true :=
    State.acceptsRequest_of hassembled hmember hfaulty hunit
  generalize hx : s.arrived m = x at haccepts
  have hexec : execClearFrame m q.chars s = .next (if e.status = .fresh then x.clearAttempt else x) := by
    refine (execRequest_eq hrun hlow hhigh htaken (by rw [hcode]; rfl)).trans (congrArg _ ?_)
    refine (State.ownChecks_other (s := s.arrived m) hop hne).trans ?_
    rw [hx]
    exact State.takeClear_accepted (by rw [← hx]; exact hget) haccepts
  have hxnow : x.now = max s.now m := by rw [← hx]; rfl
  have hxbus : x.bus = { s.bus with receiver := .waitingForIdle, idleFrom := max s.bus.idleFrom (max s.now m) } := by
    rw [← hx]
    rfl
  have hxstart : x.start = s.start := by rw [← hx]; rfl
  have hxmeas : x.meas = s.meas := by rw [← hx]; rfl
  have hxeq : x = { s with now := x.now, bus := x.bus } := by rw [← hx]; rfl
  by_cases hattempts : s.ctrl.state = .halted ∧ e.status = .fresh
  · obtain ⟨hst, hfresh⟩ := hattempts
    have hxst : x.ctrl.state = .halted := by rw [← hx]; exact hst
    have hkept : x.remainingCauses = s.halt.causes.filter s.conditionPresent := by rw [← hx]; rfl
    rw [if_pos hfresh] at hexec
    cases hremaining : x.remainingCauses with
    | cons c rest =>
      have hfails := State.clearAttempt_fails x c rest hxst hremaining
      rw [hfails] at hexec
      rw [hremaining] at hkept
      refine ⟨_, hexec, hxnow, hxstart, congrArg Measurement.stroke hxmeas, fun h => ?_, ?_, fun _ _ => ?_⟩
      · exact (h.elim (fun h => h hst) (fun h => h hfresh)).elim
      · exact hxbus.trans (by rw [← hxnow]; rfl)
      · dsimp only
        rw [← hkept]
        refine ⟨rfl, fun c' hc' => ?_, nofun⟩
        cases hc'
        rw [← hx]
        exact ⟨rfl, rfl, rfl, rfl, rfl, rfl, rfl⟩
    | nil =>
      obtain ⟨hnow, hstart, hstroke, hbus, hhalt, hcontact, hclash, hhands, hreturns, -⟩ :=
        State.clearAttempt_returns hxst hremaining
      rw [hremaining] at hkept
      have hreturns' : ReturnsFromHalt s x.clearAttempt := by
        rw [← hx] at hreturns ⊢
        exact hreturns
      obtain ⟨hholding, hready, hassembling⟩ := hreturns'.rests (hclash.trans (by rw [← hx]; rfl))
      refine ⟨_, hexec, hnow.trans hxnow, hstart.trans hxstart, hstroke.trans (congrArg Measurement.stroke hxmeas),
        fun h => ?_, ?_, fun _ _ => ?_⟩
      · exact (h.elim (fun h => h hst) (fun h => h hfresh)).elim
      · rw [hbus, hnow, hxbus, hxnow]
      · dsimp only
        rw [← hkept]
        refine ⟨by rw [hhalt], nofun, fun _ => ⟨by rw [hhalt], by rw [hhalt, hnow], by rw [hhalt],
          hcontact.trans (by rw [← hx]; rfl), ?hands, hreturns', hholding, fun hno => hready hno hassembled,
          fun hno => hassembling hno hassembled⟩⟩
        case hands =>
          rw [← hx] at hhands ⊢
          exact hhands
  · have hstays : (if e.status = .fresh then x.clearAttempt else x) = x := by
      split
      · next hfresh =>
        refine State.clearAttempt_ignored _ fun h => hattempts ⟨?_, hfresh⟩
        rw [← h, ← hx]
        rfl
      · rfl
    rw [hstays] at hexec
    exact ⟨x, hexec, hxnow, hxstart, congrArg Measurement.stroke hxmeas, fun _ => hxeq, by rw [hxbus, hxnow],
      fun hst hfresh => absurd ⟨hst, hfresh⟩ hattempts⟩

end Sys2Proof.Machine
end

section
/-! An accepted report: its entry, its causes as one event, and the assembly a restart loses. -/

namespace Sys2Proof.Machine

/-! ## The entry of an accepted report -/

/-- The entry an accepted report leaves (R63, R65, R69). -/
def Entry.accepted (e : Entry) (now : Time) (c : Content) (prompt : Bool) : Entry :=
  (if e.takesUnit c.unitNumber then e.afresh else e).accept now c prompt

theorem Entry.accepted_eq (e : Entry) (now : Time) (c : Content) (prompt : Bool) :
    let newUnit := e.takesUnit c.unitNumber
    e.accepted now c prompt =
      { status := .fresh, content := some c, lastArrival := some now
        lastScheduled := if prompt then (if newUnit then none else e.lastScheduled) else some now
        staleDeadline := some (now + (if c.period = .fast then 60000 else 1500000)), member := e.member
        early := if prompt then (!newUnit && e.early) else false
        allowance := if prompt then .spent else .available, faulty := e.faulty
        contested := e.contested, contestDeadline := e.contestDeadline } := by
  have hinterval : 3 * c.period.interval = if c.period = .fast then 60000 else 1500000 := by
    cases c.period <;> rfl
  unfold Entry.accepted Entry.accept
  rw [hinterval]
  cases e.takesUnit c.unitNumber <;> cases prompt <;> rfl

theorem Entry.accepted_member (e : Entry) (now : Time) (c : Content) (prompt : Bool) :
    (e.accepted now c prompt).member = e.member := by rw [Entry.accepted_eq]

/-- The entry of a report with another digest than the own is not sound. -/
theorem Entry.accepted_unsound {e : Entry} {now : Time} {c : Content} {prompt : Bool} {own : Option Word16}
    (h : own ≠ some c.digest) : (e.accepted now c prompt).sound own = false := by
  have hcontent : (e.accepted now c prompt).content = some c := by rw [Entry.accepted_eq]
  have hdigest : (e.accepted now c prompt).digestIs own = false := by
    rw [Entry.digestIs, hcontent]
    simpa using h
  simp [Entry.sound, hdigest]

/-! ## Marks aside, settling leaves every entry -/

theorem State.settleFrom_unmark (s : State) (old : StationState) (n : Nat) :
    (Table.get (s.settleFrom old).peers.entries n).map Entry.unmark = (Table.get s.peers.entries n).map Entry.unmark := by
  rw [s.settleFrom_peers]
  simp only [State.rested]
  repeat' split
  · rw [Table.get_map, Option.map_map]
    rfl
  · rw [Table.get_map, Option.map_map]
    rfl
  · rfl

theorem State.clearFlag_unmark (s : State) (n : Nat) :
    (Table.get s.clearFlag.peers.entries n).map Entry.unmark = (Table.get s.peers.entries n).map Entry.unmark := by
  rw [State.clearFlag_peers, Table.get_map, Option.map_map]
  rfl

/-! ## The causes of an accepted report -/

/-- The causes of a report stand in the order of their codes. -/
theorem State.reportCauses_insert (s : State) (e : Entry) (c : Content) {first : Cause}
    (h : (s.reportCauses e c).head? = some first) :
    ∃ rest, Cause.insertAll (s.reportCauses e c) [] = first :: rest := by
  revert h
  unfold State.reportCauses
  repeat' split
  all_goals intro h; cases h
  all_goals exact ⟨_, rfl⟩

/-- The assembly loss a restart signals, settled: ASSEMBLING entered from READY, or JOG without its flag. -/
theorem State.assemblyLoss_settle {x : State} :
    (x.ctrl.state = .ready → x.assemblyLoss.settle = x.enterAssembling.settleFrom .ready)
      ∧ (x.ctrl.state = .jog → x.assemblyLoss.settle = x.clearFlag.settleFrom .jog)
      ∧ (x.ctrl.state ≠ .ready → x.ctrl.state ≠ .jog → x.assemblyLoss = x) := by
  refine ⟨fun hst => ?_, fun hst => ?_, fun hready hjog => ?_⟩
  · rw [State.assemblyLoss, hst]
    exact State.settle_settleFrom _ _
  · rw [State.assemblyLoss, hst]
    dsimp only
    rw [State.clearFlag_refresh_eq hst]
    exact State.settle_settleFrom _ _
  · unfold State.assemblyLoss
    split
    · contradiction
    · contradiction
    · rfl

/-- What a report accepted at `s` with the entry `e` leaves in `t`. -/
structure AcceptsReport (s : State) (m : Time) (n : Nat) (e : Entry) (c : Content) (prompt : Bool) (t : State) : Prop where
  now_eq : t.now = max s.now m
  start_eq : t.start = s.start
  stroke_eq : t.meas.stroke = s.meas.stroke
  contact_eq : t.ctrl.contact = s.ctrl.contact
  receiver_eq : t.bus.receiver = .waitingForIdle
  idle_eq : t.bus.idleFrom = max s.bus.idleFrom (max s.now m)
  entries_eq : ∀ k, (Table.get t.peers.entries k).map Entry.unmark
    = (Table.get (s.putEntry n (e.accepted (max s.now m) c prompt)).peers.entries k).map Entry.unmark
  raises : ∀ first ∈ (s.reportCauses e c).head?,
    TakesCauses s t (s.reportCauses e c) first (if first = .peerHalted then c.origin else s.ownNumber)
      ∧ t.peers = (s.putEntry n (e.accepted (max s.now m) c prompt)).peers ∧ t.request = s.request
  follows : s.reportCauses e c = [] → OnlyMotionFollows s t
  settles : s.reportCauses e c = [] → e.isRestart c = false ∨ s.ctrl.state ≠ .ready ∧ s.ctrl.state ≠ .jog →
    SettlesFrom (s.putEntry n (e.accepted (max s.now m) c prompt)) t
  restarts : s.reportCauses e c = [] → e.isRestart c = true → s.ctrl.state = .ready →
    EntersAssembling (s.putEntry n (e.accepted (max s.now m) c prompt)) t
  restartsInJog : s.reportCauses e c = [] → e.isRestart c = true → s.ctrl.state = .jog → LosesFlagInJog s t

/-- A report that raises nothing: `y` is the part with the entry written and the assembly a restart loses gone. -/
theorem AcceptsReport.ofQuiet {s y t : State} {m : Time} {n : Nat} {e : Entry} {c : Content} {prompt : Bool}
    (hcauses : s.reportCauses e c = []) (hfrom : MovesFrom s y) (ht : t = y.settleFrom s.ctrl.state)
    (hnow : y.now = max s.now m) (hreceiver : y.bus.receiver = .waitingForIdle)
    (hidle : y.bus.idleFrom = max s.bus.idleFrom (max s.now m))
    (hentries : ∀ k, (Table.get y.peers.entries k).map Entry.unmark
      = (Table.get (s.putEntry n (e.accepted (max s.now m) c prompt)).peers.entries k).map Entry.unmark)
    (hsettles : e.isRestart c = false ∨ s.ctrl.state ≠ .ready ∧ s.ctrl.state ≠ .jog →
      SettlesFrom (s.putEntry n (e.accepted (max s.now m) c prompt)) t)
    (hready : e.isRestart c = true → s.ctrl.state = .ready →
      EntersAssembling (s.putEntry n (e.accepted (max s.now m) c prompt)) t)
    (hjog : e.isRestart c = true → s.ctrl.state = .jog → LosesFlagInJog s t) :
    AcceptsReport s m n e c prompt t := by
  obtain ⟨-, -, hr, hi⟩ := y.settleFrom_quiet s.ctrl.state
  exact
    { now_eq := by rw [ht, y.settleFrom_now, hnow]
      start_eq := by rw [ht, y.settleFrom_start, hfrom.start_eq]
      stroke_eq := by rw [ht, (y.settleFrom_measured _).1, hfrom.meas_eq]
      contact_eq := by rw [ht, y.settleFrom_contact, hfrom.contact_eq]
      receiver_eq := by rw [ht, hr, hreceiver]
      idle_eq := by rw [ht, hi, hidle]
      entries_eq := fun k => by rw [ht, y.settleFrom_unmark, hentries]
      raises := fun first h => by rw [hcauses] at h; cases h
      follows := fun _ => ht ▸ hfrom.onlyMotionFollows
      settles := fun _ => hsettles
      restarts := fun _ => hready
      restartsInJog := fun _ => hjog }

theorem State.acceptReport_accepts {s : State} {m : Time} {n : Nat} {e : Entry} {c : Content} {prompt : Bool}
    (hget : Table.get s.peers.entries n = some e) (hop : s.ctrl.state.isOperating = true) :
    AcceptsReport s m n e c prompt ((s.arrived m).acceptReport n e c prompt) := by
  generalize hx : (s.arrived m).putEntry n (e.accepted (max s.now m) c prompt) = x
  have hreport : (s.arrived m).acceptReport n e c prompt
      = (if e.isRestart c then (x.takeCauses (s.reportCauses e c) c.origin).assemblyLoss
        else x.takeCauses (s.reportCauses e c) c.origin).settle := by rw [← hx]; rfl
  have hfrom : MovesFrom s x := by
    rw [← hx]
    exact ⟨rfl, rfl, rfl, rfl, rfl, rfl, rfl, rfl, rfl, rfl, rfl, rfl, rfl, .inl rfl⟩
  have hctrl : x.ctrl = s.ctrl := by rw [← hx]; rfl
  have hnow : x.now = max s.now m := by rw [← hx]; rfl
  have hreceiver : x.bus.receiver = .waitingForIdle := by rw [← hx]; rfl
  have hidle : x.bus.idleFrom = max s.bus.idleFrom (max s.now m) := by rw [← hx]; rfl
  have hpeers : x.peers = (s.putEntry n (e.accepted (max s.now m) c prompt)).peers := by rw [← hx]; rfl
  have hrequest : x.request = s.request := by rw [← hx]; rfl
  have hentries (k : Nat) : (Table.get x.peers.entries k).map Entry.unmark
      = (Table.get (s.putEntry n (e.accepted (max s.now m) c prompt)).peers.entries k).map Entry.unmark := by
    rw [hpeers]
  have hsettles : SettlesFrom (s.putEntry n (e.accepted (max s.now m) c prompt)) (x.settleFrom s.ctrl.state) := by
    have := x.settlesFrom_settleFrom s.ctrl.state
    rw [← hx] at this ⊢
    exact this
  rw [hreport]
  cases hcauses : s.reportCauses e c with
  | nil =>
    rw [State.takeCauses_nil]
    obtain ⟨hlossReady, hlossJog, hlossElse⟩ := State.assemblyLoss_settle (x := x)
    rw [hctrl] at hlossReady hlossJog hlossElse
    have hplain : x.settle = x.settleFrom s.ctrl.state := by rw [State.settle, hctrl]
    have hquiet (hstays : e.isRestart c = false ∨ s.ctrl.state ≠ .ready ∧ s.ctrl.state ≠ .jog) :
        AcceptsReport s m n e c prompt x.settle :=
      .ofQuiet hcauses hfrom hplain hnow hreceiver hidle hentries (fun _ => hplain ▸ hsettles)
        (fun hr hst => absurd hst (hstays.elim (fun h => by rw [hr] at h; cases h) (·.1)))
        (fun hr hst => absurd hst (hstays.elim (fun h => by rw [hr] at h; cases h) (·.2)))
    cases hrestart : e.isRestart c with
    | false =>
      rw [if_neg Bool.false_ne_true]
      exact hquiet (.inl hrestart)
    | true =>
      rw [if_pos rfl]
      by_cases hready : s.ctrl.state = .ready
      · have hmoves : MovesFrom s x.enterAssembling :=
          hfrom.trans { MovesFrom.refl x with state := .inr ⟨rfl, by simp⟩ }
        refine .ofQuiet hcauses hmoves ((hlossReady hready).trans (by rw [hready])) hnow hreceiver hidle
          (fun k => (x.clearFlag_unmark k).trans (hentries k)) (fun h => ?_) (fun _ _ => ?_)
          (fun _ h => by rw [hready] at h; cases h)
        · exact absurd hready (h.elim (fun h => by rw [hrestart] at h; cases h) (·.1))
        · have := x.entersAssembling .ready
          rw [← hlossReady hready] at this
          rw [← hx] at this ⊢
          exact this
      · by_cases hjog : s.ctrl.state = .jog
        · have hmoves : MovesFrom s x.clearFlag := hfrom.trans { MovesFrom.refl x with state := .inl rfl }
          refine .ofQuiet hcauses hmoves ((hlossJog hjog).trans (by rw [hjog])) hnow hreceiver hidle
            (fun k => (x.clearFlag_unmark k).trans (hentries k)) (fun h => ?_)
            (fun _ h => absurd h hready) (fun _ _ => ?_)
          · exact absurd hjog (h.elim (fun h => by rw [hrestart] at h; cases h) (·.2))
          · have := State.losesFlagInJog (s := x) (by rw [hctrl]; exact hjog)
            rw [← hlossJog hjog] at this
            rw [← hx] at this ⊢
            exact this
        · rw [hlossElse hready hjog]
          exact hquiet (.inr ⟨hready, hjog⟩)
  | cons first rest =>
    rw [← hcauses]
    have hne : s.reportCauses e c ≠ [] := by rw [hcauses]; exact List.cons_ne_nil _ _
    generalize hy : x.takeCauses (s.reportCauses e c) c.origin = y
    have hrest : y.ctrl.state.isResting = true := hy ▸ x.takeCauses_resting hne c.origin
    have hloss : y.assemblyLoss = y :=
      State.assemblyLoss_settle.2.2 (fun h => by rw [h] at hrest; cases hrest) (fun h => by rw [h] at hrest; cases hrest)
    rw [hloss, ite_self]
    obtain ⟨hn, hs, hp, hr, -, -, hk, hm, -⟩ := x.takeCauses_frame (s.reportCauses e c) c.origin
    rw [hy] at hn hs hp hr hk hm
    obtain ⟨tail, hinsert⟩ := s.reportCauses_insert e c (first := first) (by rw [hcauses]; rfl)
    have hhalts : HaltsAs s x := ⟨hctrl, (by rw [← hx]; rfl), hfrom.spent_eq, fun h => hfrom.attempt_eq.trans h,
      by rw [hpeers]; exact Table.map_member_put hget (Entry.accepted_member _ _ _ _), by rw [hrequest],
      by rw [hrequest]⟩
    have htakes := hhalts.takesCauses hinsert c.origin
    rw [hy] at htakes
    have horigin : x.originOf first c.origin = if first = .peerHalted then c.origin else s.ownNumber := by
      rw [← hx]
      rfl
    rw [horigin] at htakes
    have hbus : y.bus.receiver = x.bus.receiver ∧ y.bus.idleFrom = x.bus.idleFrom := by
      rw [← hy, x.takeCauses_bus hne]
      split
      · exact ⟨Bus.askPrompt_receiver _ _ _ _, (x.bus.askPrompt_frame _ _ _).2.2.1⟩
      · exact ⟨rfl, rfl⟩
    have hsettle := State.settle_of_resting hrest
    exact
      { now_eq := by rw [hsettle]; exact hn.trans hnow
        start_eq := by rw [hsettle]; exact hs.trans hfrom.start_eq
        stroke_eq := by rw [hsettle]; exact hm.trans (congrArg Measurement.stroke hfrom.meas_eq)
        contact_eq := by rw [hsettle]; exact hk.trans hfrom.contact_eq
        receiver_eq := by rw [hsettle]; exact hbus.1.trans hreceiver
        idle_eq := by rw [hsettle]; exact hbus.2.trans hidle
        entries_eq := fun k => by rw [hsettle, State.refresh_peers, hp, hentries]
        raises := fun f hf => by
          rw [hcauses] at hf
          cases hf
          exact ⟨htakes.settle hrest, by rw [hsettle]; exact hp.trans hpeers, by rw [hsettle]; exact hr.trans hrequest⟩
        follows := fun h => absurd h hne
        settles := fun h => absurd h hne
        restarts := fun h => absurd h hne
        restartsInJog := fun h => absurd h hne }

/-! ## What follows a report that raises nothing -/

/-- The members of a completed assembly are the rest of the group (R5). -/
theorem SettlesFrom.memberCount_completed {s t : State} (h : SettlesFrom s t) (hst : s.ctrl.state = .assembling)
    (hgroup : s.groupAssembled = true) : s.start.config.map (fun o => o.n - 1) = some t.peers.memberCount := by
  have hcompletes : s.completesAssembly = true := by simp [State.completesAssembly, hgroup, hst]
  obtain ⟨-, hentries, -⟩ := h
  rw [if_pos hcompletes] at hentries
  have hrested : s.rested.peers.entries.toList = t.peers.entries.toList := by
    rw [hentries]
    simp only [State.rested, if_pos hcompletes, Table.toList_map]
    rfl
  rw [State.memberCount_of_completes hcompletes]
  simp only [PeerTable.memberCount, hrested]

/-- An assembly that does not complete in ASSEMBLING leaves the state, the flag and the fresh flag. -/
theorem SettlesFrom.stays_assembling {s t : State} (h : SettlesFrom s t) (hst : s.ctrl.state = .assembling)
    (hgroup : s.groupAssembled = false) :
    t.ctrl.state = .assembling ∧ t.ctrl.assembled = s.ctrl.assembled ∧ t.ctrl.fresh = s.ctrl.fresh := by
  have hcompletes : s.completesAssembly = false := by simp [State.completesAssembly, hgroup]
  have hloses : s.losesAssembly = false := by simp [State.losesAssembly, hst]
  have hrests : s.restsIn = .assembling := by simp [State.restsIn, hst, hcompletes]
  obtain ⟨hctrl, -⟩ := h
  rw [hcompletes, hloses, hrests] at hctrl
  exact ⟨congrArg Controller.state hctrl, by rw [hctrl]; simp, by rw [hctrl]; simp⟩

/-- A report that is no duplicate, at no faulty entry and, unless on the allowance, not early, is accepted (R56). -/
theorem State.reportAtEntry_accepted {s : State} {n : Nat} {e : Entry} {c : Content} {prompt : Bool}
    (hfresh : e.status = .fresh → e.content.map Content.unitNumber = some c.unitNumber ∧ e.faulty = false)
    (hpasses : (if e.takesUnit c.unitNumber then e.afresh else e).onAllowance prompt = true
      ∨ (if e.takesUnit c.unitNumber then e.afresh else e).isEarly s.now = false) :
    s.reportAtEntry n e c prompt = s.acceptReport n e c prompt := by
  unfold State.reportAtEntry
  rw [if_neg fun h => h.2 (hfresh h.1).1, if_neg fun h => by simp [(hfresh h.1).2] at h]
  dsimp only
  generalize (if e.takesUnit c.unitNumber then e.afresh else e) = taken at hpasses ⊢
  rcases hpasses with h | h
  · rw [if_pos h]
  · simp [h]

/-- Settles O44: an accepted report writes its entry, and then takes its causes or settles. -/
theorem acceptedReportUpdatesItsEntry : Obligations.AcceptedReportUpdatesItsEntry := by
  intro s m r c e hrun hop hlow hhigh hc htaken hne hget hfresh newUnit allowed early hpasses
  have hnew : newUnit = e.takesUnit c.unitNumber := by
    show (e.status == .empty || (e.status == .stale && decide (e.content.map Content.unitNumber ≠ some c.unitNumber))) = _
    rw [Entry.takesUnit, bne, beq_eq_decide (a := e.content.map Content.unitNumber), decide_not]
  have hallowed : allowed = (if e.takesUnit c.unitNumber then e.afresh else e).onAllowance r.prompt := by
    show (r.prompt && (newUnit || e.allowance == .available)) = _
    rw [hnew]
    cases e.takesUnit c.unitNumber <;> simp [Entry.onAllowance, Entry.afresh]
  have hearly : early = (if e.takesUnit c.unitNumber then e.afresh else e).isEarly (max s.now m) := by
    show (!newUnit && _) = _
    rw [hnew]
    cases e.takesUnit c.unitNumber with
    | true => rfl
    | false =>
      rw [if_neg Bool.false_ne_true, Bool.not_false, Bool.true_and]
      unfold Entry.isEarly
      cases e.lastScheduled with
      | none => rfl
      | some last =>
        cases e.content with
        | none => rfl
        | some old =>
          dsimp only
          cases old.period <;> rfl
  have hexec : execReportFrame m r.chars s = .next ((s.arrived m).acceptReport r.station.toNat e c r.prompt) := by
    rw [execReportFrame_eq hrun hlow hhigh htaken, State.examineReport_at (s := s.arrived m) hc hop hne hget,
      State.reportAtEntry_accepted (s := s.arrived m) hfresh (by rw [← hallowed]; exact hearly ▸ hpasses)]
  have hspec := State.acceptReport_accepts (m := m) (c := c) (prompt := r.prompt) hget hop
  generalize (s.arrived m).acceptReport r.station.toNat e c r.prompt = t at hexec hspec
  have hother (n : Nat) (hn : n ≠ r.station.toNat) :
      (Table.get t.peers.entries n).map Entry.unmark = (Table.get s.peers.entries n).map Entry.unmark := by
    rw [hspec.entries_eq]
    exact congrArg _ (Table.get_put_other _ _ _ _ hn)
  have hown : (Table.get t.peers.entries r.station.toNat).map Entry.unmark
      = some (e.accepted (max s.now m) c r.prompt).unmark := by
    rw [hspec.entries_eq]
    exact congrArg (Option.map Entry.unmark) (Table.get_put_same _ _ _ ⟨hlow, hhigh⟩)
  have hmember := Entry.accepted_member e (max s.now m) c r.prompt
  have haccepted := Entry.accepted_eq e (max s.now m) c r.prompt
  have hholds (hm : e.isMismatch c s.start.digest = true) :
      (s.putEntry r.station.toNat (e.accepted (max s.now m) c r.prompt)).assemblyHolds = false := by
    obtain ⟨hm, hd⟩ := Bool.and_eq_true_iff.1 hm
    exact State.assemblyHolds_putEntry ⟨hlow, hhigh⟩ (hmember.trans hm) (Entry.accepted_unsound (of_decide_eq_true hd))
  refine ⟨t, hexec, hspec.now_eq, hspec.start_eq, hspec.stroke_eq, hspec.contact_eq, hspec.receiver_eq,
    hspec.now_eq ▸ hspec.idle_eq, fun n _ hn => hother n hn, ?_⟩
  rw [hspec.now_eq, hnew]
  dsimp only at haccepted
  rw [← haccepted]
  intro e' taken restart mismatch halted causes
  refine ⟨hown, hspec.raises, fun hcauses => ⟨hspec.follows hcauses, hspec.settles hcauses, hspec.restarts hcauses,
    hspec.restartsInJog hcauses, fun hm hr hst => ?mismatchReady, fun hm hset hst => ?mismatchJog,
    fun hst hgroup hraise => ?completes, fun hst hgroup => ?stays⟩⟩
  case mismatchReady => exact (hspec.settles hcauses (.inl hr)).entersAssembling hst (hholds hm)
  case mismatchJog =>
    cases hr : e.isRestart c with
    | true => exact hspec.restartsInJog hcauses hr hst
    | false => exact (hspec.settles hcauses (.inl hr)).losesFlagInJog hst hset (hholds hm)
  case completes =>
    have hsettles := hspec.settles hcauses (.inr (by rw [hst]; simp))
    obtain ⟨hstate, hassembled, hcleared, hmarks⟩ := hsettles.completes hst hgroup hraise
    have hcount : s.start.config.map (fun o => o.n - 1) = some t.peers.memberCount :=
      hsettles.memberCount_completed hst hgroup
    refine ⟨hstate, hassembled, hcleared, hmarks, fun o ho => ?_⟩
    have ho' : s.start.config = some o := ho
    rw [ho'] at hcount
    exact (Option.some.inj hcount).symm
  case stays =>
    exact (hspec.settles hcauses (.inr (by rw [hst]; simp))).stays_assembling hst hgroup

end Sys2Proof.Machine
end

section
/-! The keys of the pendant: the requests of a sequence, the local jog, the wake and the clear. -/

namespace Sys2Proof.Machine

/-! ## A request made -/

/-- A motion request at its place: it enters or replaces, and is held as pending under attempt (R174). -/
theorem Bus.requestMotion_eq (b : Bus) (now : Time) (k : RequestKind) :
    b.requestMotion now k = { b with
      motion := if b.underAttempt .motion then b.motion else some { kind := k, entered := now, attempts := 0 }
      pendingMotion := if b.underAttempt .motion then some k else b.pendingMotion
      accessWait := (b.requestMotion now k).accessWait } := by
  unfold Bus.requestMotion Bus.beginWait
  split
  · rfl
  · split <;> rfl

/-- A clear token at its place: it enters an empty one (R174). -/
theorem Bus.requestClear_eq (b : Bus) (now : Time) :
    b.requestClear now = { b with
      clear := some (b.clear.getD { entered := now, attempts := 0 }), accessWait := (b.requestClear now).accessWait } := by
  cases h : b.clear with
  | none =>
    simp only [Bus.requestClear, h, Bus.beginWait, Option.getD_none]
    split <;> rfl
  | some x =>
    have hkept : b.requestClear now = b := by rw [Bus.requestClear, h]
    rw [hkept, Option.getD_some, ← h]

theorem State.settleFrom_pendingMotion (s : State) (old : StationState) :
    (s.settleFrom old).bus.pendingMotion = s.bus.pendingMotion := by
  rw [s.settleFrom_bus]
  split
  · obtain ⟨-, -, -, -, -, -, hpending⟩ := s.bus.askPrompt_frame s.now s.restsIn.period (old == .parked || s.restsIn == .parked)
    exact hpending
  · rfl

/-- The part with a request of a sequence made: the token handed over, and the request unit after it (R134). -/
def State.asking (s : State) (now : Time) (k : RequestKind) (asked : RequestUnit) : State :=
  { s with now := now, bus := s.bus.requestMotion now k, request := asked }

theorem MovesFrom.asking {s : State} {now : Time} {k : RequestKind} {asked : RequestUnit} :
    MovesFrom s (s.asking now k asked) := by
  have hbus := s.bus.requestMotion_eq now k
  exact
    { MovesFrom.refl s with
      attempt_eq := (congrArg Bus.attempt hbus).trans rfl
      spent_eq := (congrArg Bus.promptSpent hbus).trans rfl
      offset_eq := (congrArg Bus.retryOffset hbus).trans rfl
      report_eq := (congrArg Bus.report hbus).trans rfl
      timer_eq := (congrArg Bus.reportTimer hbus).trans rfl
      pending_eq := (congrArg Bus.pendingReport hbus).trans rfl }

theorem State.asking_settle (s : State) (now : Time) (k : RequestKind) (asked : RequestUnit) :
    let t := (s.asking now k asked).settle
    t.now = now ∧ t.start = s.start ∧ SettlesFrom { s with request := asked } t
      ∧ (s.assemblyHolds = true → t.request = asked)
      ∧ (s.assemblyHolds = true → s.ctrl.state ≠ .assembling → t.peers = s.peers)
      ∧ (s.bus.underAttempt .motion = false → t.bus.motion = some { kind := k, entered := now, attempts := 0 }
          ∧ t.bus.pendingMotion = s.bus.pendingMotion)
      ∧ (s.bus.underAttempt .motion = true → t.bus.motion = s.bus.motion ∧ t.bus.pendingMotion = some k)
      ∧ t.bus.clear = s.bus.clear ∧ OnlyMotionFollows s t := by
  have hbus : (s.asking now k asked).bus = s.bus.requestMotion now k := rfl
  have heq := s.bus.requestMotion_eq now k
  have hpending : (s.asking now k asked).settle.bus.pendingMotion = (s.asking now k asked).bus.pendingMotion :=
    State.settleFrom_pendingMotion _ _
  obtain ⟨hnow, hstart, -, hfollows, hsettles, hmotion, hclear, -⟩ := (MovesFrom.asking (s := s)).settles rfl
  have hset : SettlesFrom { s with request := asked } (s.asking now k asked).settle := hsettles
  have hclash := hfollows.2.2.1
  refine ⟨hnow, hstart, hset, fun hholds => hset.request_kept (State.losesAssembly_of_holds hholds),
    fun hholds hst => ?_, fun hu => ⟨?_, ?_⟩, fun hu => ⟨?_, ?_⟩, ?_, hfollows⟩
  · have hloses : ({ s with request := asked } : State).losesAssembly = false := State.losesAssembly_of_holds hholds
    exact congrArg₂ PeerTable.mk (hset.entries_kept hloses (State.completesAssembly_eq_false hst hloses)) hclash
  · rw [hmotion, hbus, heq, hu]
    rfl
  · rw [hpending, hbus, heq, hu]
    rfl
  · rw [hmotion, hbus, heq, hu]
    rfl
  · rw [hpending, hbus, heq, hu]
    rfl
  · rw [hclear, hbus, heq]

/-- Settles O40: one more request of the sequence, and the part settled under the command it forms. -/
theorem repeatExpiryMakesAnotherRequest : Obligations.RepeatExpiryMakesAnotherRequest := by
  intro s q hrun hq
  have hdue : s.request.sequence.map Sequence.repeatAt = some q.repeatAt := by rw [hq]; rfl
  have hexec : execRepeatTimerExpiry s = .next (s.asking (max s.now q.repeatAt) q.kind { s.request with
      sequence := some { q with repeatAt := q.repeatAt + 20000 }
      slots := Table.put s.request.slots s.ownNumber
        (some { kind := q.kind, stamp := max s.now q.repeatAt }) }).settle := by
    rw [execRepeatTimerExpiry, State.onTimer_eq hrun hdue, State.tick_request, hq]
    rfl
  obtain ⟨hnow, hstart, hset, hrequest, hpeers, hfree, hheld, hclear, hfollows⟩ :=
    s.asking_settle (max s.now q.repeatAt) q.kind { s.request with
      sequence := some { q with repeatAt := q.repeatAt + 20000 }
      slots := Table.put s.request.slots s.ownNumber (some { kind := q.kind, stamp := max s.now q.repeatAt }) }
  generalize (s.asking _ _ _).settle = t at hexec hnow hstart hset hrequest hpeers hfree hheld hclear hfollows
  refine ⟨t, hexec, hnow, hstart, ?_⟩
  rw [hnow]
  exact ⟨⟨hset, fun _ hholds => ⟨hrequest hholds, hpeers hholds⟩⟩, fun hu => (hfree hu).1, hheld, hclear, hfollows⟩

/-! ## A parked station woken, and the park timer restarted -/

/-- A part that only stands by a command's own writes: nothing follows. -/
theorem MovesFrom.stands {s t : State} (h : MovesFrom s t) (hstate : t.ctrl.state = s.ctrl.state) :
    OnlyMotionFollows s t := by
  refine ⟨h.start_eq, by rw [h.meas_eq], h.clash_eq, h.halt_eq, h.contact_eq, by rw [h.engine_eq], by rw [h.engine_eq],
    h.attempt_eq, h.spent_eq, h.offset_eq, ⟨fun _ => ?_, fun hne => absurd hstate hne⟩,
    fun hparked hne => absurd (hstate.trans hparked) hne, fun _ => ⟨h.report_eq, h.timer_eq, h.pending_eq⟩⟩
  rw [h.meas_eq, h.drive_eq]
  exact ⟨h.engine_eq, rfl, rfl, rfl, rfl⟩

/-- A part that settles in the state it had stands as before for what follows. -/
theorem MovesFrom.settled_still {s y : State} (h : MovesFrom s y) (hstate : y.ctrl.state = s.ctrl.state)
    (hrests : y.restsIn = s.ctrl.state) : MovesFrom s y.settle := by
  have hsettle : y.settle = y.settleFrom s.ctrl.state := by rw [State.settle, hstate]
  rw [hsettle]
  have hbus : (y.settleFrom s.ctrl.state).bus = y.bus := by
    rw [y.settleFrom_bus, if_neg fun hne => hne.1 hrests]
  have hmeas : (y.settleFrom s.ctrl.state).meas = y.meas := by rw [y.settleFrom_meas, if_pos hrests]
  have hengine : (y.settleFrom s.ctrl.state).engine = y.engine := by rw [y.settleFrom_engine, if_pos hrests]
  have hdrive : (y.settleFrom s.ctrl.state).drive = y.drive := by rw [y.settleFrom_drive, if_pos hrests]
  have hpeers : (y.settleFrom s.ctrl.state).peers.clashHold = y.peers.clashHold := by
    rw [y.settleFrom_peers]
    rfl
  refine h.trans ⟨y.settleFrom_start _, hmeas, hengine, hdrive, hpeers, by rw [y.settleFrom_halt_eq], y.settleFrom_contact _,
    ?_, ?_, ?_, ?_, ?_, ?_, .inl ((y.settleFrom_state _).trans (hrests.trans hstate.symm))⟩
  all_goals rw [hbus]

theorem OnlyMotionFollows.restartPark {s t : State} (h : OnlyMotionFollows s t) : OnlyMotionFollows s t.restartPark := by
  unfold State.restartPark
  split
  · exact h
  · exact h

/-- A park timer restarted as the station comes to rest runs from zero (R157). -/
theorem SettlesFrom.restartPark {a t : State} (h : SettlesFrom a t) (hstart : t.start = a.start) :
    SettlesFrom { a with ctrl := { a.ctrl with parkTimer := none } } t.restartPark := by
  obtain ⟨hctrl, hentries, hrequest, hlamp⟩ := h
  have hstate : t.ctrl.state = a.restsIn := congrArg Controller.state hctrl
  have hpark := congrArg Controller.parkTimer hctrl
  dsimp only at hpark
  generalize hq : t.restartPark.ctrl.parkTimer = q
  have heq : t.restartPark = { t with ctrl := { t.ctrl with parkTimer := q } } := by
    rw [← hq]
    unfold State.restartPark
    split <;> rfl
  have hfromZero : q = if a.restsIn = .holding ∧ a.command = .none then some (t.now + a.start.parkTime) else none := by
    rw [← hq, State.restartPark, hstate, ← hstart]
    split
    · next hholding =>
      show t.ctrl.parkTimer.map _ = _
      rw [hpark]
      split <;> rfl
    · next hother =>
      rw [hpark, if_neg fun h => hother h.1, if_neg fun h => hother h.1]
  have hpart : ({ a with ctrl := { a.ctrl with parkTimer := none } } : State).restsIn = a.restsIn
      ∧ ({ a with ctrl := { a.ctrl with parkTimer := none } } : State).completesAssembly = a.completesAssembly
      ∧ ({ a with ctrl := { a.ctrl with parkTimer := none } } : State).losesAssembly = a.losesAssembly
      ∧ ({ a with ctrl := { a.ctrl with parkTimer := none } } : State).command = a.command := ⟨rfl, rfl, rfl, rfl⟩
  obtain ⟨hrests, hcompletes, hloses, hcommand⟩ := hpart
  rw [heq, SettlesFrom, hrests, hcompletes, hloses, hcommand]
  refine ⟨?_, hentries, hrequest, hlamp⟩
  rw [Option.getD_none, ← hfromZero]
  exact congrArg (fun c : Controller => { c with parkTimer := q }) hctrl

/-- The wake of a parked station by a key, with a restart of the park timer (R157, R165 to R167). -/
theorem State.wakes {s x : State} (h : MovesFrom s x) (hstate : x.ctrl.state = s.ctrl.state) :
    let t := x.wakeByKey.restartPark
    OnlyMotionFollows s t ∧ t.now = x.now ∧ t.bus.motion = x.bus.motion ∧ t.bus.clear = x.bus.clear
      ∧ t.bus.pendingMotion = x.bus.pendingMotion
      ∧ (s.ctrl.state = .parked →
          SettlesFrom { x with ctrl := { x.ctrl with state := .holding, parkTimer := none } } t)
      ∧ (s.ctrl.state ≠ .parked → t = x.restartPark) := by
  have hrestart (y : State) : y.restartPark.now = y.now ∧ y.restartPark.bus = y.bus := by
    unfold State.restartPark
    split <;> exact ⟨rfl, rfl⟩
  dsimp only
  rw [(hrestart _).1, (hrestart _).2]
  by_cases hst : s.ctrl.state = .parked
  · have hwake : x.wakeByKey = (x.withState .holding).settleFrom .parked := if_pos (hstate.trans hst)
    have hmoves : MovesFrom s (x.withState .holding) :=
      h.trans { MovesFrom.refl x with state := .inr ⟨rfl, by simp⟩ }
    have hfollows := hmoves.onlyMotionFollows
    rw [hst] at hfollows
    obtain ⟨hmotion, hclear, -, -⟩ := (x.withState .holding).settleFrom_quiet .parked
    rw [hwake]
    exact ⟨hfollows.restartPark, State.settleFrom_now _ _, hmotion, hclear, State.settleFrom_pendingMotion _ _,
      fun _ => ((x.withState .holding).settlesFrom_settleFrom .parked).restartPark (State.settleFrom_start _ _),
      fun hne => absurd hst hne⟩
  · have hstays : x.wakeByKey = x := if_neg fun e => hst (hstate.symm.trans e)
    rw [hstays]
    exact ⟨(h.stands hstate).restartPark, rfl, rfl, rfl, rfl, fun e => absurd e hst, fun _ => rfl⟩

/-! ## Presses in GROUP mode -/

/-- The part at a later moment with its request unit written. -/
def State.withRequest (s : State) (now : Time) (r : RequestUnit) : State := { s with now := now, request := r }

theorem MovesFrom.withRequest {s : State} {now : Time} {r : RequestUnit} : MovesFrom s (s.withRequest now r) :=
  { MovesFrom.refl s with }

theorem State.judgeJog_of_group {s : State} {key : Key} (h : s.request.mode = .groupMode) : s.judgeJog key = s := by
  rw [State.judgeJog, if_neg (by rw [h]; simp)]

theorem State.settleFrom_mode (s : State) (old : StationState) : (s.settleFrom old).request.mode = s.request.mode := by
  rw [s.settleFrom_request old]
  rcases s.rested_request_cases with h | ⟨-, h⟩ <;> rw [h]

/-- RAISE and LOWER with the kinds of request they and the other key ask for. -/
abbrev KeyAsksFor (key : Key) (k other : RequestKind) : Prop :=
  key = .raise ∧ k = .raise ∧ other = .lower ∨ key = .lower ∧ k = .lower ∧ other = .raise

section GroupPress

variable {s : State} {now : Time} {key : Key} {k other : RequestKind} {r : RequestUnit}

/-- A press of RAISE or LOWER outside JOG in GROUP mode: the request unit's part, and then the wake (R128, R132, R133). -/
theorem State.press_group (hkeys : KeyAsksFor key k other) (hop : s.ctrl.state.isOperating = true) (hjog : s.ctrl.state ≠ .jog)
    (hmode : r.mode = .groupMode) :
    (s.withRequest now r).press key
      = (if s.ctrl.assembled = true ∧ (r.key (otherKey key)).pressed = false
          then (s.asking now k { r with
            sequence := some { kind := k, repeatAt := now + 20000 }
            slots := Table.put r.slots s.ownNumber (some { kind := k, stamp := now }) }).settle
          else s.withRequest now { r with
            sequence := if r.sequence.map Sequence.kind = some other then none else r.sequence }).wakeByKey.restartPark := by
  generalize hkept : ({ r with
    sequence := if r.sequence.map Sequence.kind = some other then none else r.sequence } : RequestUnit) = kept
  have hends : (if (s.withRequest now r).request.sequenceKind = keyKind (otherKey key)
      then (s.withRequest now r).endSequence else s.withRequest now r) = s.withRequest now kept := by
    have hkind : keyKind (otherKey key) = some other := by
      rcases hkeys with ⟨rfl, -, rfl⟩ | ⟨rfl, -, rfl⟩ <;> rfl
    have hseq : (s.withRequest now r).request.sequenceKind = r.sequence.map Sequence.kind := rfl
    rw [← hkept, hkind, hseq]
    split <;> rfl
  have hother : (s.withRequest now kept).request.key (otherKey key) = r.key (otherKey key) := by
    rw [← hkept]
    rcases hkeys with ⟨rfl, -, -⟩ | ⟨rfl, -, -⟩ <;> rfl
  have hkeptMode : (s.withRequest now kept).request.mode = .groupMode := by
    rw [← hkept]
    exact hmode
  have hbegins : (s.withRequest now kept).beginsSequence key
      = decide (s.ctrl.assembled = true ∧ (r.key (otherKey key)).pressed = false) := by
    rw [State.beginsSequence, hother, hkeptMode]
    show (_ && _ && s.ctrl.assembled) = _
    cases s.ctrl.assembled <;> cases (r.key (otherKey key)).pressed <;> rfl
  have hbegun : (s.withRequest now kept).beginSequence k = s.asking now k { r with
      sequence := some { kind := k, repeatAt := now + 20000 }
      slots := Table.put r.slots s.ownNumber (some { kind := k, stamp := now }) } := by
    rw [← hkept]
    rfl
  have hrequest : (s.withRequest now r).requestPress key k
      = if s.ctrl.assembled = true ∧ (r.key (otherKey key)).pressed = false
          then (s.asking now k { r with
            sequence := some { kind := k, repeatAt := now + 20000 }
            slots := Table.put r.slots s.ownNumber (some { kind := k, stamp := now }) }).settle
          else s.withRequest now kept := by
    unfold State.requestPress
    dsimp only
    rw [hends, hbegins, hbegun]
    by_cases hb : s.ctrl.assembled = true ∧ (r.key (otherKey key)).pressed = false
    · rw [if_pos hb, if_pos (decide_eq_true hb)]
    · rw [if_neg hb, if_neg (by rw [decide_eq_false hb]; exact Bool.false_ne_true)]
  have hkind : keyKind key = some k := by rcases hkeys with ⟨rfl, rfl, -⟩ | ⟨rfl, rfl, -⟩ <;> rfl
  unfold State.press
  rw [if_pos (show (s.withRequest now r).ctrl.state.isOperating = true from hop), hkind]
  dsimp only
  rw [hrequest]
  generalize hx : (if s.ctrl.assembled = true ∧ (r.key (otherKey key)).pressed = false
          then (s.asking now k { r with
            sequence := some { kind := k, repeatAt := now + 20000 }
            slots := Table.put r.slots s.ownNumber (some { kind := k, stamp := now }) }).settle
          else s.withRequest now kept) = x
  have hxjog : x.ctrl.state ≠ .jog := by
    rw [← hx]
    split
    · intro e
      rw [State.settle, State.settleFrom_state, State.restsIn_jog_iff] at e
      exact hjog e
    · exact hjog
  have hxmode : x.request.mode = .groupMode := by
    rw [← hx]
    split
    · exact (State.settleFrom_mode _ _).trans hmode
    · exact hkeptMode
  rw [State.motionPress, if_neg hxjog]
  refine State.judgeJog_of_group ?_
  rw [State.restartPark_request]
  unfold State.wakeByKey
  split
  · exact (State.settleFrom_mode _ _).trans hxmode
  · exact hxmode

end GroupPress

theorem State.restsIn_parked {s : State} (h : s.restsIn = .parked) : s.ctrl.state = .parked := by
  revert h
  unfold State.restsIn GroupCommand.leadsTo
  cases s.ctrl.state <;> dsimp only <;> repeat' split
  all_goals simp

theorem State.restartPark_of_none {s : State} (h : s.ctrl.parkTimer = none) : s.restartPark = s := by
  unfold State.restartPark
  split
  · rw [h, Option.map_none, ← h]
  · rfl

/-- A request made and the wake after it: what follows, and the tables under a command that is not NONE. -/
theorem State.asking_wakes (s : State) (now : Time) (k : RequestKind) (asked : RequestUnit) :
    let x := (s.asking now k asked).settle
    let t := x.wakeByKey.restartPark
    OnlyMotionFollows s t ∧ t.now = now ∧ t.bus.clear = s.bus.clear
      ∧ (({ s with request := asked } : State).command ≠ .none → t = x) := by
  generalize hy : s.asking now k asked = y
  have hfrom : MovesFrom s y := hy ▸ MovesFrom.asking
  have hystate : y.ctrl.state = s.ctrl.state := by rw [← hy]; rfl
  have hclear : y.bus.clear = s.bus.clear := by
    rw [← hy]
    exact (congrArg Bus.clear (s.bus.requestMotion_eq now k)).trans rfl
  obtain ⟨hnow, -, -, hfollows, hsettles, -, hclear', -⟩ := hfrom.settles hystate
  have hynow : y.now = now := by rw [← hy]; rfl
  have hcommand : y.command = ({ s with request := asked } : State).command := by rw [← hy]; rfl
  by_cases hparked : y.settle.ctrl.state = .parked
  · have hrests : y.restsIn = .parked := hsettles.state_eq.symm.trans hparked
    have hst : s.ctrl.state = .parked := hystate.symm.trans (State.restsIn_parked hrests)
    have hstill := hfrom.settled_still hystate (hrests.trans hst.symm)
    obtain ⟨hf, hn, -, hc, -⟩ := State.wakes hstill (hparked.trans hst.symm)
    refine ⟨hf, hn.trans (hnow.trans hynow), hc.trans (hclear'.trans hclear), fun hne => ?_⟩
    rw [← hcommand] at hne
    rw [State.restsIn, hystate.trans hst] at hrests
    dsimp only at hrests
    rw [if_neg hne] at hrests
    unfold GroupCommand.leadsTo at hrests
    repeat' split at hrests
    all_goals cases hrests
  · have hstays : y.settle.wakeByKey = y.settle := if_neg hparked
    dsimp only
    rw [hstays]
    refine ⟨hfollows.restartPark, ?_, ?_, fun hne => State.restartPark_of_none ?_⟩
    · exact (by unfold State.restartPark; split <;> rfl : y.settle.restartPark.now = y.settle.now).trans (hnow.trans hynow)
    · exact (by unfold State.restartPark; split <;> rfl : y.settle.restartPark.bus.clear = y.settle.bus.clear).trans
        (hclear'.trans hclear)
    · have hpark := congrArg Controller.parkTimer hsettles.1
      dsimp only at hpark
      rwa [if_neg fun h => hne (hcommand.symm.trans h.2)] at hpark

theorem State.onFilter_press {s : State} {m : Time} {key : Key} (hrun : s.start.resetHeld = false)
    (hup : (s.request.key key).pressed = false) (hfree : (s.request.key key).blocked = false)
    (hpresent : s.request.pendantPresent = true) :
    ∃ now, now = max s.now (max m ((s.request.key key).filterFrom.getD 0 + 20000))
      ∧ execKeyPress m key s = .next ((s.withRequest now
          (s.request.setKey { s.request.key key with pressed := true, filterFrom := some now } key)).press key) := by
  refine ⟨_, rfl, ?_⟩
  rw [execKeyPress, if_neg (by simp [hup, hfree, hpresent]), State.onFilter_running _ _ _ _ _ hrun]
  rfl

/-- Settles O35: with the flag set and the other key released a request is made; otherwise the press wakes or restarts. -/
theorem groupPressBeginsARequestSequence : Obligations.GroupPressBeginsARequestSequence := by
  intro s m key k other hrun hkeys hup hfree hpresent hmode hlaw
  obtain ⟨now, hnow, hexec⟩ := State.onFilter_press (m := m) hrun hup hfree hpresent
  have hjog : s.ctrl.state ≠ .jog := fun hst => by
    obtain ⟨-, -, -, hlocal⟩ := hlaw
    rw [(hlocal hst).1] at hmode
    cases hmode
  generalize hr : s.request.setKey { s.request.key key with pressed := true, filterFrom := some now } key = r at hexec
  obtain ⟨hslots, hsequence, hrmode, -⟩ := s.request.setKey_same
    { s.request.key key with pressed := true, filterFrom := some now } key
  rw [hr] at hslots hsequence hrmode
  have hother : r.key (otherKey key) = s.request.key (otherKey key) := by
    rw [← hr, RequestUnit.key_setKey, if_neg]
    rcases hkeys with ⟨rfl, -, -⟩ | ⟨rfl, -, -⟩ <;> simp [otherKey]
  cases hop : s.ctrl.state.isOperating with
  | false =>
    have hpress : (s.withRequest now r).press key = s.withRequest now r := by
      rw [State.press, if_neg]
      show ¬s.ctrl.state.isOperating = true
      rw [hop]
      exact Bool.false_ne_true
    rw [hpress] at hexec
    refine ⟨s.withRequest now r, hexec, hnow, rfl, rfl, MovesFrom.withRequest.stands rfl, ?_⟩
    intro pressed begins kept asked
    have hpressed : pressed = r := hr
    exact ⟨fun _ => by rw [hpressed]; rfl, nofun, nofun⟩
  | true =>
    have hpress := State.press_group (now := now) hkeys hop hjog (hrmode.trans hmode)
    rw [hslots, hsequence, hother] at hpress
    rw [hpress] at hexec
    clear hpress
    by_cases hbegins : s.ctrl.assembled = true ∧ (s.request.key (otherKey key)).pressed = false
    · rw [if_pos hbegins] at hexec
      generalize hasked : ({ r with
        sequence := some { kind := k, repeatAt := now + 20000 }
        slots := Table.put s.request.slots s.ownNumber (some { kind := k, stamp := now }) } : RequestUnit) = asked at hexec
      obtain ⟨hfollows, htnow, hclear, hcommanded⟩ := s.asking_wakes now k asked
      obtain ⟨-, -, hset, hrequest, hpeers, hidle, hheld, -⟩ := s.asking_settle now k asked
      generalize ht : (s.asking now k asked).settle.wakeByKey.restartPark = t at hexec hfollows htnow hclear hcommanded
      refine ⟨t, hexec, htnow.trans hnow, hfollows.1, hclear, hfollows, ?_⟩
      rw [htnow, hr]
      intro pressed begins kept asked'
      have hasked' : asked' = asked := hasked
      refine ⟨nofun, fun _ _ hlow hhigh => ?_, fun _ h => absurd hbegins h⟩
      have hfilled : Table.get asked.slots s.ownNumber = some (some { kind := k, stamp := now }) := by
        rw [← hasked]
        exact Table.get_put_same _ _ _ ⟨hlow, hhigh⟩
      rw [hcommanded (State.command_of_slot hfilled), hasked']
      refine ⟨hset, fun hholds => ⟨hrequest hholds, ?_⟩, hpeers, hidle, hheld, fun hholds hst hraise => ?_, fun hst => ?_⟩
      · rw [hset.assembled_eq, State.losesAssembly_of_holds (s := { s with request := asked }) hholds]
        simp [hbegins.1]
      · have hloses : ({ s with request := asked } : State).losesAssembly = false := State.losesAssembly_of_holds hholds
        have hraise' : ({ s with request := asked } : State).command = .raise := by
          rw [← hraise]
          exact congrArg (fun x : RequestUnit => Slot.command x.slots) (hrequest hholds).symm
        rw [hset.state_eq]
        simp only [State.restsIn, hst, hloses, if_neg Bool.false_ne_true, if_pos hraise']
      · rw [hset.state_eq]
        simp only [State.restsIn, hst]
    · rw [if_neg hbegins] at hexec
      generalize hkept : ({ r with
        sequence := if s.request.sequence.map Sequence.kind = some other then none else s.request.sequence
        slots := s.request.slots } : RequestUnit) = kept at hexec
      obtain ⟨hfollows, htnow, hmotion, hclear, hpending, hparked, hstays⟩ :=
        State.wakes (s := s) (x := s.withRequest now kept) MovesFrom.withRequest rfl
      generalize ht : (s.withRequest now kept).wakeByKey.restartPark = t at *
      have htnow' : t.now = now := htnow
      refine ⟨t, hexec, htnow'.trans hnow, hfollows.1, hclear, hfollows, ?_⟩
      rw [htnow', hr]
      intro pressed begins kept' asked
      have hkept' : kept' = kept := by rw [← hkept, ← hslots]
      rw [hkept']
      refine ⟨nofun, fun _ h => absurd h hbegins, fun _ _ => ⟨hmotion, hpending, hparked, fun hst => ?_,
        fun hnot hst => ?_⟩⟩
      · rw [hstays (by rw [hst]; simp)]
        exact if_pos hst
      · rw [hstays hnot]
        exact if_neg hst

end Sys2Proof.Machine
end

section
/-! The pendant in LOCAL mode, and its RESET key. -/

namespace Sys2Proof.Machine

/-! ## Presses in LOCAL mode -/

theorem OnlyMotionFollows.handsOn {s t : State} (h : OnlyMotionFollows s t) : HandsOn s t := by
  obtain ⟨-, -, -, -, -, -, -, -, -, -, hhands, -⟩ := h
  exact hhands

/-- The measured stroke and the number-clash indication stand in what follows. -/
theorem OnlyMotionFollows.stands {s t : State} (h : OnlyMotionFollows s t) :
    t.start = s.start ∧ t.meas.stroke = s.meas.stroke ∧ t.peers.clashHold = s.peers.clashHold
      ∧ t.ctrl.contact = s.ctrl.contact := by
  obtain ⟨hstart, hmeas, hclash, -, hcontact, -⟩ := h
  exact ⟨hstart, by rw [hmeas], hclash, hcontact⟩

theorem SettlesFrom.refuse {a t : State} (h : SettlesFrom a t) (lamp : Option Time) :
    SettlesFrom { a with request := { a.request with refusedLamp := lamp } }
      { t with request := { t.request with refusedLamp := lamp } } := by
  obtain ⟨hctrl, hentries, hrequest, hlamp⟩ := h
  refine ⟨hctrl, hentries, ?_, hlamp⟩
  have hloses : ({ a with request := { a.request with refusedLamp := lamp } } : State).losesAssembly = a.losesAssembly := rfl
  rw [hloses, hrequest]
  split <;> rfl

/-- A press of RAISE or LOWER in LOCAL mode with no sequence is the state controller's alone (R29, R128). -/
theorem State.press_local {x : State} {key : Key} (hkey : key = .raise ∨ key = .lower) (hmode : x.request.mode = .localMode)
    (hnone : x.request.sequence = none) (hop : x.ctrl.state.isOperating = true) : x.press key = x.motionPress key := by
  have hne : key ≠ .reset := by rcases hkey with rfl | rfl <;> simp
  obtain ⟨k, hk⟩ : ∃ k, keyKind key = some k := by rcases hkey with rfl | rfl <;> exact ⟨_, rfl⟩
  rw [State.press, if_pos hop, hk]
  dsimp only
  rw [State.requestPress_of_local k hne hmode hnone]

theorem State.motionPress_jog {x : State} {key : Key} (hst : x.ctrl.state = .jog) :
    x.motionPress key = if key = holdingKey x.ctrl.jogDirection then x else x.leaveJog := if_pos hst

theorem State.motionPress_other {x : State} {key : Key} (hst : x.ctrl.state ≠ .jog) :
    x.motionPress key = (x.wakeByKey.restartPark).judgeJog key := if_neg hst

theorem State.judgeJog_local {x : State} {key : Key} (hmode : x.request.mode = .localMode) :
    x.judgeJog key = if x.ctrl.state.refusesJog then x.refuse
      else if (x.ctrl.state = .assembling ∨ x.ctrl.state = .ready) ∧ (x.request.key (otherKey key)).pressed = false then
        x.enterJog (jogDirectionOf key)
      else x := if_pos hmode

/-- A jog entered from ASSEMBLING or READY (R18): what it writes, where the assembly holds or the flag is clear. -/
theorem State.entersJog {s x : State} {dir : Direction} (h : MovesFrom s x) (hctrl : x.ctrl = s.ctrl) (hpeers : x.peers = s.peers)
    (hbus : x.bus = s.bus) (hst : s.ctrl.state = .assembling ∨ s.ctrl.state = .ready) :
    OnlyMotionFollows s (x.enterJog dir) ∧ (x.enterJog dir).now = x.now
      ∧ (s.ctrl.assembled = false ∨ s.assemblyHolds = true →
        let t := x.enterJog dir
        t.ctrl.state = .jog ∧ t.ctrl.jogDirection = dir
          ∧ t.ctrl.assembled = s.ctrl.assembled ∧ t.ctrl.contact = s.ctrl.contact ∧ t.request = x.request
          ∧ t.bus = s.bus ∧ t.peers = s.peers ∧ t.engine.direction = t.ctrl.jogDirection
          ∧ OnlyMotionFollows s t
          ∧ (s.drive.brake = .set → t.drive.brake = .releasing
              ∧ t.drive.releaseTimer = some (t.now + s.start.releaseTime))) := by
  generalize hy : ({ x with ctrl := { x.ctrl with state := .jog, jogDirection := dir } } : State) = y
  have hjog : x.enterJog dir = y.settleFrom s.ctrl.state := by rw [State.enterJog, hy, hctrl]
  have hyctrl : y.ctrl = { s.ctrl with state := .jog, jogDirection := dir } := by rw [← hy, ← hctrl]
  have hystate : y.ctrl.state = .jog := by rw [hyctrl]
  have hmoves : MovesFrom s y := by
    rw [← hy]
    exact h.trans { MovesFrom.refl x with state := .inr ⟨rfl, by simp⟩ }
  have hypeers : y.peers = s.peers := by rw [← hy, ← hpeers]
  have hybus : y.bus = s.bus := by rw [← hy, ← hbus]
  have hynow : y.now = x.now := by rw [← hy]
  have hyrequest : y.request = x.request := by rw [← hy]
  have hrests : y.restsIn = .jog := by simp only [State.restsIn, hystate]
  have hfollows := hmoves.onlyMotionFollows
  have hsettles := y.settlesFrom_settleFrom s.ctrl.state
  rw [hjog]
  refine ⟨hfollows, (y.settleFrom_now _).trans hynow, fun hkept => ?_⟩
  have hne : y.restsIn ≠ s.ctrl.state := by
    rw [hrests]
    rcases hst with hst | hst <;> rw [hst] <;> simp
  have hstate : (y.settleFrom s.ctrl.state).ctrl.state = .jog := hsettles.state_eq.trans hrests
  have hdirection : (y.settleFrom s.ctrl.state).ctrl.jogDirection = dir := by rw [y.settleFrom_jogDirection, hyctrl]
  have hloses : y.losesAssembly = false := by
    have hholds : y.assemblyHolds = s.assemblyHolds := by simp only [State.assemblyHolds, hypeers, hmoves.start_eq]
    simp only [State.losesAssembly, hholds, hyctrl]
    rcases hkept with hc | hc <;> simp [hc]
  have hcompletes : y.completesAssembly = false := State.completesAssembly_eq_false (by rw [hystate]; simp) hloses
  have hnot : asksPrompt s.ctrl.state .jog = false := by rcases hst with hst | hst <;> rw [hst] <;> rfl
  obtain ⟨-, hchanged⟩ := hfollows.handsOn
  rw [y.settleFrom_state, hrests] at hchanged
  obtain ⟨⟨hengine, -⟩, hbrake, -⟩ := hchanged (hrests ▸ hne)
  refine ⟨hstate, hdirection, ?_, (y.settleFrom_contact _).trans hmoves.contact_eq, ?_, ?_, ?_, ?_, hfollows, fun hset => ?_⟩
  · rw [hsettles.assembled_eq, hcompletes, hloses, hyctrl]
    simp
  · exact (hsettles.request_kept hloses).trans hyrequest
  · rw [y.settleFrom_bus, hrests, hnot, if_neg (by simp), hybus]
  · rw [y.settleFrom_peers, State.rested_of_kept hcompletes hloses]
    exact hypeers
  · rw [hengine, hdirection]
    rfl
  · rw [BrakeFollows, hstate, if_pos (show StationState.jog.isMoving = true from rfl)] at hbrake
    obtain ⟨-, hreleases, -⟩ := hbrake
    obtain ⟨hb, hr, -⟩ := hreleases hset
    exact ⟨hb, hr⟩

/-- A press refused by a part that has come to rest (R30). -/
theorem State.refused {a t : State} (h : SettlesFrom a t) (hmode : t.request.mode = .localMode)
    (hrefuses : t.ctrl.state.refusesJog = true) (key : Key) :
    t.judgeJog key = { t with request := { t.request with refusedLamp := some (t.now + 500000) } }
      ∧ SettlesFrom { a with request := { a.request with refusedLamp := some (t.now + 500000) } } (t.judgeJog key) := by
  have heq : t.judgeJog key = { t with request := { t.request with refusedLamp := some (t.now + 500000) } } := by
    rw [State.judgeJog_local hmode, if_pos hrefuses]
    rfl
  refine ⟨heq, ?_⟩
  rw [heq]
  exact h.refuse _

/-- A woken station comes to rest in a loaded state, which refuses a jog. -/
theorem State.restsIn_woken {a : State} (h : a.ctrl.state = .holding) : a.restsIn.refusesJog = true := by
  unfold State.restsIn GroupCommand.leadsTo
  rw [h]
  dsimp only
  repeat' split
  all_goals rfl

/-- Where no command stands a woken station stays in HOLDING, and nothing else moves (R157, R166). -/
theorem SettlesFrom.woken {s t : State} {r : RequestUnit}
    (h : SettlesFrom { s with request := r, ctrl := { s.ctrl with state := .holding, parkTimer := none } } t)
    (hfollows : OnlyMotionFollows s t) (hst : s.ctrl.state = .parked)
    (hcommand : ({ s with request := r } : State).command = .none) :
    t.ctrl.state = .holding ∧ t.request = r ∧ t.ctrl.contact = s.ctrl.contact ∧ t.ctrl.assembled = s.ctrl.assembled
      ∧ t.peers = s.peers ∧ t.ctrl.parkTimer = some (t.now + s.start.parkTime) ∧ t.drive.brake = s.drive.brake := by
  generalize ha : ({ s with request := r, ctrl := { s.ctrl with state := .holding, parkTimer := none } } : State) = a at h
  have hast : a.ctrl.state = .holding := by rw [← ha]
  have hacommand : a.command = .none := by rw [← hcommand, ← ha]; rfl
  have hloses : a.losesAssembly = false := by simp [State.losesAssembly, hast]
  have hcompletes : a.completesAssembly = false := State.completesAssembly_eq_false (by simp [hast]) hloses
  have hrests : a.restsIn = .holding := by
    simp only [State.restsIn, hast, hacommand]
    rfl
  have hstate := h.state_eq.trans hrests
  obtain ⟨-, -, hclash, hcontact⟩ := hfollows.stands
  obtain ⟨-, hchanged⟩ := hfollows.handsOn
  obtain ⟨-, hbrake, -⟩ := hchanged (by rw [hstate, hst]; simp)
  refine ⟨hstate, (h.request_kept hloses).trans (by rw [← ha]), hcontact, ?_, ?_, ?_, ?_⟩
  · rw [h.assembled_eq, hcompletes, hloses, ← ha]
    simp
  · refine congrArg₂ PeerTable.mk ((h.entries_kept hloses hcompletes).trans ?_) hclash
    rw [← ha]
  · have hpark := congrArg Controller.parkTimer h.1
    dsimp only at hpark
    rw [if_pos ⟨hrests, hacommand⟩, ← ha, Option.getD_none] at hpark
    exact hpark
  · rw [BrakeFollows, hstate, hst, if_neg (by simp [StationState.isMoving]), if_neg (by simp [StationState.isMoving])]
      at hbrake
    obtain ⟨hb, -⟩ := hbrake
    exact hb

theorem StationState.refusesJog_of {st : StationState} (hop : st.isOperating = true) (hjog : st ≠ .jog)
    (hfree : ¬(st = .assembling ∨ st = .ready)) (hpark : st ≠ .parked) : st.refusesJog = true := by
  cases st <;> simp_all [StationState.isOperating, StationState.refusesJog]

theorem State.restartPark_stands (x : State) :
    x.restartPark.now = x.now ∧ x.restartPark.ctrl.state = x.ctrl.state ∧ x.restartPark.request = x.request := by
  unfold State.restartPark
  split <;> exact ⟨rfl, rfl, rfl⟩

theorem State.leaveJog_now (x : State) : x.leaveJog.now = x.now := by
  unfold State.leaveJog State.enterReady
  rw [State.settleFrom_now]
  repeat' split
  all_goals rfl

section LocalPress

variable {s : State} {now : Time} {key : Key} {r : RequestUnit}

theorem State.press_silent (hop : s.ctrl.state.isOperating = false) :
    (s.withRequest now r).press key = s.withRequest now r := by
  rw [State.press, if_neg]
  show ¬s.ctrl.state.isOperating = true
  rw [hop]
  exact Bool.false_ne_true

variable (hkey : key = .raise ∨ key = .lower) (hmode : r.mode = .localMode) (hnone : r.sequence = none)
include hkey hmode hnone

/-- In JOG the holding key continues the jog, and the other key ends it (R20, R29). -/
theorem State.press_inJog (hst : s.ctrl.state = .jog) :
    (s.withRequest now r).press key
      = if key = holdingKey s.ctrl.jogDirection then s.withRequest now r else (s.withRequest now r).leaveJog := by
  have hop : (s.withRequest now r).ctrl.state.isOperating = true := by
    show s.ctrl.state.isOperating = true
    rw [hst]
    rfl
  rw [State.press_local hkey hmode hnone hop]
  exact State.motionPress_jog hst

/-- Outside JOG and PARKED the press is judged where the station stands, a running park timer restarted. -/
theorem State.press_judged (hop : s.ctrl.state.isOperating = true) (hjog : s.ctrl.state ≠ .jog) (hpark : s.ctrl.state ≠ .parked) :
    (s.withRequest now r).press key = (s.withRequest now r).restartPark.judgeJog key := by
  have hawake : (s.withRequest now r).wakeByKey = s.withRequest now r := if_neg hpark
  rw [State.press_local (x := s.withRequest now r) hkey hmode hnone hop,
    State.motionPress_other (x := s.withRequest now r) hjog, hawake]

/-- In ASSEMBLING and READY a press with the other key released enters JOG (R18). -/
theorem State.press_free (hst : s.ctrl.state = .assembling ∨ s.ctrl.state = .ready) :
    (s.withRequest now r).press key = if (r.key (otherKey key)).pressed = false
      then (s.withRequest now r).enterJog (jogDirectionOf key) else s.withRequest now r := by
  have hop : s.ctrl.state.isOperating = true := by rcases hst with h | h <;> rw [h] <;> rfl
  have hrefuses : (s.withRequest now r).ctrl.state.refusesJog = false := by
    show s.ctrl.state.refusesJog = false
    rcases hst with h | h <;> rw [h] <;> rfl
  have hplain : (s.withRequest now r).restartPark = s.withRequest now r :=
    if_neg (by show ¬s.ctrl.state = .holding; rcases hst with h | h <;> simp [h])
  rw [State.press_judged hkey hmode hnone hop (by rcases hst with h | h <;> simp [h])
    (by rcases hst with h | h <;> simp [h]), hplain, State.judgeJog_local hmode, hrefuses, if_neg Bool.false_ne_true]
  by_cases hreleased : (r.key (otherKey key)).pressed = false
  · exact (if_pos ⟨hst, hreleased⟩).trans (if_pos hreleased).symm
  · exact (if_neg fun h => hreleased h.2).trans (if_neg hreleased).symm

/-- In the loaded states and HALTED a local action is refused (R29, R30). -/
theorem State.press_refused (hst : s.ctrl.state.refusesJog = true) :
    (s.withRequest now r).press key
      = { (s.withRequest now r).restartPark with request := { r with refusedLamp := some (now + 500000) } } := by
  obtain ⟨hnow, hstate, hrequest⟩ := (s.withRequest now r).restartPark_stands
  have hop : s.ctrl.state.isOperating = true := by
    revert hst
    cases s.ctrl.state <;> simp [StationState.refusesJog, StationState.isOperating]
  have hrefuses : (s.withRequest now r).restartPark.ctrl.state.refusesJog = true := hstate ▸ hst
  rw [State.press_judged hkey hmode hnone hop (by rintro e; rw [e] at hst; cases hst)
    (by rintro e; rw [e] at hst; cases hst), State.judgeJog_local (by rw [hrequest]; exact hmode), if_pos hrefuses,
    State.refuse, hrequest]
  have hnow' : (s.withRequest now r).restartPark.now = now := hnow
  generalize (s.withRequest now r).restartPark = x at hnow' ⊢
  subst hnow'
  rfl

/-- A parked station wakes, and the press is refused in the state the wake stops in (R166, R167). -/
theorem State.press_parked (hst : s.ctrl.state = .parked) :
    let t := (s.withRequest now r).press key
    OnlyMotionFollows s t ∧ t.now = now
      ∧ SettlesFrom { s with
          request := { r with refusedLamp := some (now + 500000) }
          ctrl := { s.ctrl with state := .holding, parkTimer := none } } t := by
  obtain ⟨hwakes, hwakeNow, -, -, -, hwoken, -⟩ := State.wakes (s := s) (x := s.withRequest now r) MovesFrom.withRequest rfl
  have hset := hwoken hst
  have hwmode : (s.withRequest now r).wakeByKey.restartPark.request.mode = .localMode := by
    rw [State.restartPark_request, State.wakeByKey]
    split
    · exact (State.settleFrom_mode _ _).trans hmode
    · exact hmode
  have hpressed : (s.withRequest now r).press key = (s.withRequest now r).wakeByKey.restartPark.judgeJog key := by
    rw [State.press_local hkey hmode hnone (by show s.ctrl.state.isOperating = true; rw [hst]; rfl),
      State.motionPress_other (by show s.ctrl.state ≠ .jog; rw [hst]; simp)]
  have hrefuses : (s.withRequest now r).wakeByKey.restartPark.ctrl.state.refusesJog = true := by
    rw [hset.state_eq]
    exact State.restsIn_woken rfl
  obtain ⟨heq, hrest⟩ := State.refused hset hwmode hrefuses key
  dsimp only
  rw [hpressed]
  rw [hwakeNow] at hrest
  exact ⟨by rw [heq]; exact hwakes, by rw [heq]; exact hwakeNow, hrest⟩

/-- Whatever a local press does, nothing but the motion follows. -/
theorem State.press_follows :
    OnlyMotionFollows s ((s.withRequest now r).press key) ∧ ((s.withRequest now r).press key).now = now := by
  have hmoves : MovesFrom s (s.withRequest now r) := MovesFrom.withRequest
  have hstands : OnlyMotionFollows s (s.withRequest now r) ∧ (s.withRequest now r).now = now := ⟨hmoves.stands rfl, rfl⟩
  by_cases hop : s.ctrl.state.isOperating = true
  · by_cases hst : s.ctrl.state = .jog
    · rw [State.press_inJog hkey hmode hnone hst]
      split
      · exact hstands
      · exact ⟨(hmoves.leaveJog hst).1, State.leaveJog_now _⟩
    · by_cases hfree : s.ctrl.state = .assembling ∨ s.ctrl.state = .ready
      · rw [State.press_free hkey hmode hnone hfree]
        split
        · obtain ⟨hfollows, hnow, -⟩ := State.entersJog (dir := jogDirectionOf key) hmoves rfl rfl rfl hfree
          exact ⟨hfollows, hnow⟩
        · exact hstands
      · by_cases hpark : s.ctrl.state = .parked
        · obtain ⟨hfollows, hnow, -⟩ := State.press_parked (now := now) hkey hmode hnone hpark
          exact ⟨hfollows, hnow⟩
        · rw [State.press_refused hkey hmode hnone (StationState.refusesJog_of hop hst hfree hpark)]
          have hparks := hstands.1.restartPark
          exact ⟨hparks, (State.restartPark_stands _).1⟩
  · rw [State.press_silent (Bool.eq_false_iff.2 hop)]
    exact hstands

end LocalPress

/-- Settles O36: the access table of R29 read state by state. -/
theorem localPressJogsOrIsRefused : Obligations.LocalPressJogsOrIsRefused := by
  intro s m key hrun hkey hup hfree hpresent hmode hnone
  obtain ⟨now, hnow, hexec⟩ := State.onFilter_press (m := m) hrun hup hfree hpresent
  generalize hr : s.request.setKey { s.request.key key with pressed := true, filterFrom := some now } key = r at hexec
  obtain ⟨hslots, hsequence, hrmode, -⟩ := s.request.setKey_same
    { s.request.key key with pressed := true, filterFrom := some now } key
  rw [hr] at hslots hsequence hrmode
  have hother : r.key (otherKey key) = s.request.key (otherKey key) := by
    rw [← hr, RequestUnit.key_setKey, if_neg]
    rcases hkey with rfl | rfl <;> simp [otherKey]
  have hmode' : r.mode = .localMode := hrmode.trans hmode
  have hnone' : r.sequence = none := hsequence.trans hnone
  have hmoves : MovesFrom s (s.withRequest now r) := MovesFrom.withRequest
  obtain ⟨hfollows, htnow⟩ := State.press_follows (s := s) (now := now) hkey hmode' hnone'
  obtain ⟨hstart, hstroke, hclash, -⟩ := hfollows.stands
  generalize ht : (s.withRequest now r).press key = t at hexec hfollows htnow hstart hstroke hclash
  refine ⟨t, hexec, htnow.trans hnow, hstart, hclash, hstroke, ?_⟩
  rw [htnow, hr]
  intro pressed other
  refine ⟨fun hop => ?silent, fun hst hpressed => ?blocked, fun hst hreleased hkept => ?enters,
    fun hst hsame => ?continues, fun hst hne => ?ends, fun hst hne => ?refuses, fun hst => ?holding,
    fun hst => ⟨hfollows, ?parked⟩, fun hst hquiet => ?woken⟩
  case silent => rw [← ht]; exact State.press_silent hop
  case blocked =>
    have hpressed' : (s.request.key (otherKey key)).pressed = true := hpressed
    rw [← ht, State.press_free hkey hmode' hnone' hst, hother, if_neg (by simp [hpressed'])]
    rfl
  case enters =>
    have hentered := State.press_free (now := now) hkey hmode' hnone' hst
    rw [hother, if_pos hreleased, ht] at hentered
    obtain ⟨-, -, henters⟩ := State.entersJog (dir := jogDirectionOf key) hmoves rfl rfl rfl hst
    rw [← hentered] at henters
    obtain ⟨hstate, hdirection, hassembled, hcontact, hrequest, hbus, hpeers, hengine, hf, hbrake⟩ := henters hkept
    rw [htnow] at hbrake
    refine ⟨hstate, hdirection.trans ?_, hassembled, hcontact, hrequest, hbus, hpeers, hengine, hf, hbrake⟩
    rcases hkey with rfl | rfl <;> rfl
  case continues =>
    rw [← ht, State.press_inJog hkey hmode' hnone' hst, if_pos hsame]
    rfl
  case ends =>
    have hleft := State.press_inJog (now := now) hkey hmode' hnone' hst
    rw [if_neg hne, ht] at hleft
    have hleaves : LeavesJog (s.withRequest now r) (s.withRequest now r).leaveJog := State.leavesJog hst
    rw [hleft]
    exact ⟨hleaves, (hmoves.leaveJog hst).1, (hmoves.leaveJog hst).2⟩
  case refuses =>
    have hplain : (s.withRequest now r).restartPark = s.withRequest now r := if_neg hne
    rw [← ht, State.press_refused hkey hmode' hnone' hst, hplain]
    rfl
  case holding =>
    have hrestarts : (s.withRequest now r).restartPark = { s.withRequest now r with
        ctrl := { s.ctrl with parkTimer := s.ctrl.parkTimer.map (fun _ => now + s.start.parkTime) } } := if_pos hst
    rw [← ht, State.press_refused hkey hmode' hnone' (by rw [hst]; rfl), hrestarts]
    rfl
  case parked =>
    rw [← ht]
    exact (State.press_parked hkey hmode' hnone' hst).2.2
  case woken =>
    obtain ⟨-, -, hset⟩ := State.press_parked (now := now) hkey hmode' hnone' hst
    rw [ht] at hset
    obtain ⟨hstate, hrequest, hcontact, hassembled, hpeers, hpark, hbrake⟩ :=
      hset.woken hfollows hst ((congrArg Slot.command hslots).trans hquiet)
    rw [htnow] at hpark
    exact ⟨hstate, hrequest, hcontact, hassembled, hpeers, hpark, hbrake, hfollows⟩

end Sys2Proof.Machine
end

section
/-! The RESET key of the pendant, releases, the mode switch and the pendant's presence. -/

namespace Sys2Proof.Machine

/-! ## The RESET key -/

/-- The request unit after another: the same, or emptied with the assembled flag (R133, R139). -/
def RequestUnit.Kept (r r' : RequestUnit) : Prop :=
  r' = r ∨ r' = { r with slots := Vector.replicate 24 none, sequence := none }

theorem RequestUnit.Kept.trans {r r' r'' : RequestUnit} (h : r.Kept r') (h' : r'.Kept r'') : r.Kept r'' := by
  rcases h' with rfl | rfl
  · exact h
  · rcases h with rfl | rfl
    · exact .inr rfl
    · exact .inr rfl

theorem State.settleFrom_kept (s : State) (old : StationState) : s.request.Kept (s.settleFrom old).request := by
  rw [s.settleFrom_request old]
  rcases s.rested_request_cases with h | ⟨-, h⟩
  · exact .inl h
  · exact .inr h

theorem State.clearAttempt_kept (s : State) : s.request.Kept s.clearAttempt.request := by
  have hreturn : s.request.Kept s.cleared.returnFromHalt.request := by
    unfold State.returnFromHalt State.enterReady
    split
    · exact .inl rfl
    · split
      · split
        · exact .inl rfl
        · exact .inr rfl
      · exact .inr rfl
  unfold State.clearAttempt
  split
  · split
    · exact .inl rfl
    · exact hreturn.trans (State.settleFrom_kept _ _)
  · exact .inl rfl

theorem State.resetPress_kept (s : State) : s.request.Kept s.resetPress.request := by
  have hwake (x : State) : x.request.Kept x.wakeByKey.request := by
    unfold State.wakeByKey
    split
    · exact State.settleFrom_kept _ _
    · exact .inl rfl
  unfold State.resetPress
  dsimp only
  rw [State.restartPark_request]
  exact (State.clearAttempt_kept { s with bus := s.bus.requestClear s.now }).trans (hwake _)

/-- The part with the RESET key's press written and its clear token handed over (R135). -/
def State.clearing (s : State) (now : Time) (r : RequestUnit) : State :=
  { s with now := now, request := r, bus := s.bus.requestClear now }

theorem MovesFrom.clearing {s : State} {now : Time} {r : RequestUnit} : MovesFrom s (s.clearing now r) := by
  have hbus := s.bus.requestClear_eq now
  exact
    { MovesFrom.refl s with
      attempt_eq := (congrArg Bus.attempt hbus).trans rfl
      spent_eq := (congrArg Bus.promptSpent hbus).trans rfl
      offset_eq := (congrArg Bus.retryOffset hbus).trans rfl
      report_eq := (congrArg Bus.report hbus).trans rfl
      timer_eq := (congrArg Bus.reportTimer hbus).trans rfl
      pending_eq := (congrArg Bus.pendingReport hbus).trans rfl }

theorem State.resetPress_eq (s : State) (now : Time) (r : RequestUnit) :
    (s.withRequest now r).resetPress = (s.clearing now r).clearAttempt.wakeByKey.restartPark := rfl

/-- Where the station is not halted the clear does nothing, and the press wakes it or restarts its park timer. -/
theorem State.resetPress_awake {s : State} {now : Time} {r : RequestUnit} (hst : s.ctrl.state ≠ .halted) :
    (s.withRequest now r).resetPress = (s.clearing now r).wakeByKey.restartPark := by
  rw [State.resetPress_eq, State.clearAttempt_ignored (s.clearing now r) hst]

/-- A clear attempt that fails leaves the station halted. -/
theorem State.resetPress_fails {s : State} {now : Time} {r : RequestUnit} {c : Cause} {rest : List Cause}
    (hst : s.ctrl.state = .halted) (hkept : s.halt.causes.filter s.conditionPresent = c :: rest)
    (hcondition : (s.clearing now r).conditionPresent = s.conditionPresent) :
    (s.withRequest now r).resetPress = (s.clearing now r).failClear c (c :: rest) := by
  have hremaining : (s.clearing now r).remainingCauses = c :: rest := by
    rw [State.remainingCauses, hcondition]
    exact hkept
  have hstays : ((s.clearing now r).failClear c (c :: rest)).ctrl.state = .halted := hst
  rw [State.resetPress_eq, State.clearAttempt_fails (s.clearing now r) c rest hst hremaining,
    State.wakeByKey, if_neg (by rw [hstays]; simp),
    State.restartPark, if_neg (by rw [hstays]; simp)]

/-- A return from HALTED with the park timer restarted, from zero where it runs (R157). -/
theorem ReturnsFromHalt.restartPark {s t : State} (h : ReturnsFromHalt s t) (hstart : t.start = s.start) :
    ReturnsFromHalt { s with ctrl := { s.ctrl with parkTimer := none } } t.restartPark := by
  obtain ⟨hholding, hready, hassembling⟩ := h
  refine ⟨fun hsome => (hholding hsome).restartPark hstart, fun hnone hset => (hready hnone hset).restartPark hstart,
    fun hnone hclear => ?_⟩
  have henters := hassembling hnone hclear
  unfold State.restartPark
  split
  · exact henters
  · exact henters

/-- A clear attempt that succeeds returns the station by the contact record and the flag (R121, R122). -/
theorem State.resetPress_returns {s : State} {now : Time} {r : RequestUnit}
    (hst : s.ctrl.state = .halted) (hkept : s.halt.causes.filter s.conditionPresent = [])
    (hcondition : (s.clearing now r).conditionPresent = s.conditionPresent) :
    let t := (s.withRequest now r).resetPress
    t.now = now ∧ t.start = s.start ∧ t.meas.stroke = s.meas.stroke ∧ t.bus = s.bus.requestClear now
      ∧ t.halt = { s.halt with causes := [], first := none, grace := some (now + 60000), faultLamp := false }
      ∧ t.ctrl.state ≠ .halted ∧ t.ctrl.contact = s.ctrl.contact ∧ HandsOn s t
      ∧ ReturnsFromHalt { s with request := r, ctrl := { s.ctrl with parkTimer := none } } t := by
  have hremaining : (s.clearing now r).remainingCauses = [] := by
    rw [State.remainingCauses, hcondition]
    exact hkept
  obtain ⟨hnow, hstart, hstroke, hbus, hhalt, hcontact, -, hhands, hreturns, hresting, hparked⟩ :=
    State.clearAttempt_returns (x := s.clearing now r) hst hremaining
  have hpress : (s.withRequest now r).resetPress = (s.clearing now r).clearAttempt.restartPark := by
    rw [State.resetPress_eq, State.wakeByKey, if_neg hparked]
  have hpark := hreturns.restartPark hstart
  generalize (s.clearing now r).clearAttempt = w at hnow hstart hstroke hbus hhalt hcontact hhands hresting hpress hpark
  have hhands' : HandsOn s w.restartPark := by
    unfold State.restartPark
    split
    · exact hhands
    · exact hhands
  have hrest : w.restartPark.now = w.now ∧ w.restartPark.start = w.start ∧ w.restartPark.meas = w.meas
      ∧ w.restartPark.bus = w.bus ∧ w.restartPark.halt = w.halt ∧ w.restartPark.ctrl.state = w.ctrl.state
      ∧ w.restartPark.ctrl.contact = w.ctrl.contact := by
    unfold State.restartPark
    split <;> exact ⟨rfl, rfl, rfl, rfl, rfl, rfl, rfl⟩
  obtain ⟨hn, hs, hm, hb, hh, hc, hk⟩ := hrest
  rw [hpress]
  refine ⟨hn.trans hnow, hs.trans hstart, (congrArg Measurement.stroke hm).trans hstroke, hb.trans hbus, hh.trans hhalt, ?_,
    hk.trans hcontact, hhands', hpark⟩
  rw [hc]
  intro e
  rw [e] at hresting
  cases hresting

/-- Settles O37: the clear token in every state, the clear attempt in HALTED, and the wake or restart elsewhere. -/
theorem resetPressClearsAndAsksTheGroup : Obligations.ResetPressClearsAndAsksTheGroup := by
  intro s m hrun hup hfree hpresent
  obtain ⟨now, hnow, hexec⟩ := State.onFilter_press (m := m) (key := .reset) hrun hup hfree hpresent
  generalize hr : s.request.setKey { s.request.key .reset with pressed := true, filterFrom := some now } .reset = r at hexec
  have hr' : r = { s.request with resetKey := { pressed := true, blocked := false, filterFrom := some now } } := by
    rw [← hr, ← hfree]
    rfl
  have hcondition : (s.clearing now r).conditionPresent = s.conditionPresent := by
    rw [hr']
    funext c
    cases c <;> rfl
  cases hop : s.ctrl.state.isOperating with
  | false =>
    rw [State.press_silent hop] at hexec
    refine ⟨_, hexec, hnow, rfl, rfl, ?_⟩
    intro pressed
    have hpressed : pressed = r := hr'.symm
    refine ⟨fun _ => by rw [hpressed]; rfl, nofun, nofun, fun hst => ?_, fun hst => ?_, fun hst => ?_⟩
    all_goals rw [hst] at hop; cases hop
  | true =>
    have hpress : (s.withRequest now r).press .reset = (s.withRequest now r).resetPress := if_pos hop
    rw [hpress] at hexec
    have hkept := (s.withRequest now r).resetPress_kept
    have hclear : (s.bus.requestClear now).clear = some (s.bus.clear.getD { entered := now, attempts := 0 }) :=
      (congrArg Bus.clear (s.bus.requestClear_eq now)).trans rfl
    have hmotion : (s.bus.requestClear now).motion = s.bus.motion :=
      (congrArg Bus.motion (s.bus.requestClear_eq now)).trans rfl
    have hattempt : (s.bus.requestClear now).attempt = s.bus.attempt :=
      (congrArg Bus.attempt (s.bus.requestClear_eq now)).trans rfl
    have hkeys (h : r.Kept (s.withRequest now r).resetPress.request) :
        (s.withRequest now r).resetPress.request.resetKey = r.resetKey
          ∧ (s.withRequest now r).resetPress.request.refusedLamp = s.request.refusedLamp := by
      rw [hr'] at h ⊢
      rcases h with h | h <;> rw [h] <;> exact ⟨rfl, rfl⟩
    obtain ⟨hresetKey, hlamp⟩ := hkeys hkept
    by_cases hhalted : s.ctrl.state = .halted
    · cases hremaining : s.halt.causes.filter s.conditionPresent with
      | cons c rest =>
        have hfails := State.resetPress_fails (now := now) (r := r) hhalted hremaining hcondition
        refine ⟨_, hexec, ?_⟩
        rw [hfails] at hresetKey hlamp ⊢
        refine ⟨hnow, rfl, rfl, ?_⟩
        intro pressed
        have hpressed : pressed = r := hr'.symm
        rw [hpressed]
        refine ⟨nofun, fun _ => ⟨hresetKey, hlamp, fun _ => rfl, fun hnone => hclear.trans (by rw [hnone]; rfl),
          fun x hx => hclear.trans (by rw [hx]; rfl), hmotion, hattempt⟩, fun _ h => absurd hhalted h,
          fun h => ?_, fun h => ?_, fun _ => ⟨rfl, fun c' hc' => ?_, nofun⟩⟩
        · rw [hhalted] at h; cases h
        · rw [hhalted] at h; cases h
        · cases hc'
          exact ⟨rfl, rfl, rfl, rfl, rfl, rfl⟩
      | nil =>
        obtain ⟨htnow, hstart, hstroke, hbus, hhalt, hleft, hcontact, hhands, hreturns⟩ :=
          State.resetPress_returns (now := now) (r := r) hhalted hremaining hcondition
        generalize (s.withRequest now r).resetPress = t at *
        refine ⟨t, hexec, htnow.trans hnow, hstart, hstroke, ?_⟩
        rw [htnow]
        intro pressed
        have hpressed : pressed = r := hr'.symm
        rw [hpressed]
        refine ⟨nofun, fun _ => ⟨hresetKey, hlamp, fun _ => hbus,
          fun hnone => (congrArg Bus.clear hbus).trans (hclear.trans (by rw [hnone]; rfl)),
          fun x hx => (congrArg Bus.clear hbus).trans (hclear.trans (by rw [hx]; rfl)),
          (congrArg Bus.motion hbus).trans hmotion, (congrArg Bus.attempt hbus).trans hattempt⟩,
          fun _ h => absurd hhalted h, fun h => ?_, fun h => ?_, fun _ => ⟨by rw [hhalt], nofun, fun _ =>
            ⟨by rw [hhalt], by rw [hhalt], by rw [hhalt], hleft, hcontact, hhands, hreturns⟩⟩⟩
        · rw [hhalted] at h; cases h
        · rw [hhalted] at h; cases h
    · obtain ⟨hfollows, htnow, htmotion, htclear, -, hparked, hstays⟩ :=
        State.wakes (s := s) (x := s.clearing now r) MovesFrom.clearing rfl
      obtain ⟨hstart, hstroke, -, -⟩ := hfollows.stands
      obtain ⟨-, -, -, -, -, -, -, htattempt, -⟩ := id hfollows
      rw [State.resetPress_awake hhalted] at hexec hresetKey hlamp
      generalize (s.clearing now r).wakeByKey.restartPark = t at *
      have htnow' : t.now = now := htnow
      refine ⟨t, hexec, htnow'.trans hnow, hstart, hstroke, ?_⟩
      rw [htnow']
      intro pressed
      have hpressed : pressed = r := hr'.symm
      rw [hpressed]
      refine ⟨nofun, fun _ => ⟨hresetKey, hlamp, fun hst => ?_, fun hnone => htclear.trans (hclear.trans (by rw [hnone]; rfl)),
        fun x hx => htclear.trans (hclear.trans (by rw [hx]; rfl)), htmotion.trans hmotion, htattempt⟩,
        fun _ _ hst hpark => ?_, fun hst => ?_, fun hst => ⟨hfollows, hparked hst⟩, fun h => absurd h hhalted⟩
      · rw [hstays hst, State.restartPark]
        split <;> rfl
      · have hplain : (s.clearing now r).restartPark = s.clearing now r := if_neg hst
        rw [hstays hpark, hplain]
        rfl
      · have hrestarts : (s.clearing now r).restartPark = { s.clearing now r with
            ctrl := { s.ctrl with parkTimer := s.ctrl.parkTimer.map (fun _ => now + s.start.parkTime) } } := if_pos hst
        rw [hstays (by rw [hst]; simp), hrestarts]
        rfl

end Sys2Proof.Machine
end

section
/-! Releases of keys, the mode switch and the pendant's presence: the sequence and the jog they end. -/

namespace Sys2Proof.Machine

/-! ## A jog ended -/

theorem State.leaveJog_kept (x : State) : x.request.Kept x.leaveJog.request := by
  have hready : x.request.Kept x.enterReady.request := by
    unfold State.enterReady
    split
    · exact .inl rfl
    · exact .inr rfl
  unfold State.leaveJog
  split
  · exact hready.trans (State.settleFrom_kept _ _)
  · exact (show x.request.Kept x.enterAssembling.request from .inr rfl).trans (State.settleFrom_kept _ _)

/-- A jog that ends with its flag set and the assembly standing, and no RAISE to carry the station on, ends in READY (R17). -/
theorem LeavesJog.ready {s t : State} (h : LeavesJog s t) (hclash : t.peers.clashHold = s.peers.clashHold)
    (hset : s.ctrl.assembled = true) (hholds : s.assemblyHolds = true) (hraise : s.command ≠ .raise) :
    t.ctrl.state = .ready ∧ t.request = s.request ∧ t.peers = s.peers ∧ t.engine.commanded = 0 := by
  obtain ⟨hready, -, hrest⟩ := h
  have hsettles := hready hset
  have hloses : ({ s with ctrl := { s.ctrl with state := .ready } } : State).losesAssembly = false :=
    State.losesAssembly_of_holds hholds
  have hraise' : ({ s with ctrl := { s.ctrl with state := .ready } } : State).command ≠ .raise := hraise
  have hstate : t.ctrl.state = .ready := by
    rw [hsettles.state_eq]
    simp only [State.restsIn, hloses, if_neg Bool.false_ne_true, if_neg hraise']
  have hentries := hsettles.entries_kept hloses (State.completesAssembly_eq_false (by simp) hloses)
  obtain ⟨hcommanded, -⟩ := hrest (by rw [hstate]; simp)
  exact ⟨hstate, hsettles.request_kept hloses, congrArg₂ PeerTable.mk hentries hclash, hcommanded⟩

/-- A jog ended by a write of the request unit. -/
theorem State.leavesJog_by {s : State} (now : Time) (r : RequestUnit) (hst : s.ctrl.state = .jog) :
    let t := (s.withRequest now r).leaveJog
    LeavesJog { s with request := r } t ∧ OnlyMotionFollows s t ∧ t.bus = s.bus ∧ t.now = now ∧ r.Kept t.request
      ∧ (s.ctrl.assembled = true → s.assemblyHolds = true → ({ s with request := r } : State).command ≠ .raise →
          t.ctrl.state = .ready ∧ t.request = r ∧ t.peers = s.peers ∧ t.engine.commanded = 0) := by
  obtain ⟨hfollows, hbus⟩ := (MovesFrom.withRequest (s := s) (now := now) (r := r)).leaveJog hst
  have hleaves : LeavesJog { s with request := r } (s.withRequest now r).leaveJog := State.leavesJog (x := s.withRequest now r) hst
  obtain ⟨-, -, hclash, -⟩ := hfollows.stands
  exact ⟨hleaves, hfollows, hbus, State.leaveJog_now _, State.leaveJog_kept _,
    fun hset hholds hraise => hleaves.ready hclash hset hholds hraise⟩

/-! ## A key released -/

/-- The request unit after a filtered release of a key, which from ASSEMBLING on ends the sequence of its kind (R133). -/
def RequestUnit.released (r : RequestUnit) (now : Time) (key : Key) (operating : Bool) : RequestUnit :=
  { r.setKey { r.key key with pressed := false, filterFrom := some now } key with
    sequence := if operating && decide ((r.sequence.map Sequence.kind).isSome = true
      ∧ r.sequence.map Sequence.kind = keyKind key) then none else r.sequence }

/-- A release is a write of the request unit, and the end of the jog the key holds (R20, R133). -/
theorem State.releaseKey_eq (x : State) (key : Key) :
    x.releaseKey key
      = if x.ctrl.state = .jog ∧ key = holdingKey x.ctrl.jogDirection
        then (x.withRequest x.now (x.request.released x.now key x.ctrl.state.isOperating)).leaveJog
        else x.withRequest x.now (x.request.released x.now key x.ctrl.state.isOperating) := by
  obtain ⟨-, hsequence, -⟩ := x.request.setKey_same { x.request.key key with pressed := false, filterFrom := some x.now } key
  have hkind : (x.setPressed key false).request.sequenceKind = x.request.sequence.map Sequence.kind :=
    congrArg (Option.map Sequence.kind) hsequence
  have hends : (key ≠ .reset ∧ x.request.sequence.map Sequence.kind = keyKind key)
      ↔ ((x.request.sequence.map Sequence.kind).isSome = true ∧ x.request.sequence.map Sequence.kind = keyKind key) := by
    cases key <;> cases x.request.sequence <;> simp [keyKind]
  cases hop : x.ctrl.state.isOperating with
  | false =>
    have hkept : x.withRequest x.now (x.request.released x.now key false) = x.setPressed key false := by
      unfold RequestUnit.released
      rw [Bool.false_and, if_neg Bool.false_ne_true, ← hsequence]
      rfl
    have hop' : (x.setPressed key false).ctrl.state.isOperating = false := hop
    rw [State.releaseKey, hop', if_neg Bool.false_ne_true, hkept, if_neg]
    rintro ⟨h, -⟩
    rw [h] at hop
    cases hop
  | true =>
    have hwritten : (if key ≠ .reset ∧ (x.setPressed key false).request.sequenceKind = keyKind key
        then (x.setPressed key false).endSequence else x.setPressed key false)
        = x.withRequest x.now (x.request.released x.now key true) := by
      unfold RequestUnit.released
      rw [hkind, Bool.true_and]
      by_cases h : key ≠ .reset ∧ x.request.sequence.map Sequence.kind = keyKind key
      · rw [if_pos h, if_pos (decide_eq_true (hends.1 h))]
        rfl
      · rw [if_neg h, if_neg (by rw [decide_eq_false fun e => h (hends.2 e)]; exact Bool.false_ne_true), ← hsequence]
        rfl
    have hop' : (x.setPressed key false).ctrl.state.isOperating = true := hop
    rw [State.releaseKey, if_pos hop']
    dsimp only
    rw [hwritten]
    rfl

/-- Settles O38: a release and a mode change are writes of the request unit, and the end of the jog they hold. -/
theorem releaseAndModeEndJogAndSequence : Obligations.ReleaseAndModeEndJogAndSequence := by
  intro s m key mode hrun
  refine ⟨fun hup => if_neg (by simp [hup]), fun hsame => if_pos hsame, fun hdown => ?release, fun hchanges => ?mode⟩
  case release =>
    generalize hnow : max s.now (max m ((s.request.key key).filterFrom.getD 0 + 20000)) = now
    generalize hr : s.request.released now key s.ctrl.state.isOperating = r
    have hexec : execKeyRelease m key s = .next (if s.ctrl.state = .jog ∧ key = holdingKey s.ctrl.jogDirection
        then (s.withRequest now r).leaveJog else s.withRequest now r) := by
      rw [execKeyRelease, if_pos hdown, State.onFilter_running _ _ _ _ _ hrun, State.releaseKey_eq, ← hr, ← hnow]
      rfl
    have hrest : ({ s.request.setKey { s.request.key key with pressed := false, filterFrom := some now } key with
        sequence := if s.ctrl.state.isOperating && decide ((s.request.sequence.map Sequence.kind).isSome = true
          ∧ s.request.sequence.map Sequence.kind = keyKind key) then none else s.request.sequence } : RequestUnit) = r := hr
    by_cases hjog : s.ctrl.state = .jog ∧ key = holdingKey s.ctrl.jogDirection
    · obtain ⟨hleaves, hfollows, hbus, htnow, -, hready⟩ := State.leavesJog_by now r hjog.1
      rw [if_pos hjog] at hexec
      generalize (s.withRequest now r).leaveJog = t at hexec hleaves hfollows hbus htnow hready
      refine ⟨t, hexec, htnow, ?_⟩
      rw [htnow]
      dsimp only
      rw [hrest]
      have hcommand : ({ s with request := r } : State).command = s.command := by
        rw [← hr]
        cases key <;> rfl
      exact ⟨fun h => absurd hjog h, fun _ _ => ⟨hleaves, hfollows, hbus, fun hset hholds hraise =>
        hready hset hholds (by rw [hcommand]; exact hraise)⟩⟩
    · rw [if_neg hjog] at hexec
      refine ⟨_, hexec, rfl, ?_⟩
      dsimp only
      exact ⟨fun _ => congrArg (s.withRequest now) hrest.symm, fun hst hkey => absurd ⟨hst, hkey⟩ hjog⟩
  case mode =>
    generalize hnow : max s.now (max m (s.request.modeFrom.getD 0 + 20000)) = now
    have hexec : execModeChange m mode s
        = .next (if s.ctrl.state.isOperating then
          (if mode = .localMode then (s.withRequest now { s.request with mode := mode, modeFrom := some now }).endSequence
            else (s.withRequest now { s.request with mode := mode, modeFrom := some now }).leaveJogIfIn)
          else s.withRequest now { s.request with mode := mode, modeFrom := some now }) := by
      rw [execModeChange, if_neg hchanges, State.onFilter_running _ _ _ _ _ hrun, ← hnow]
      cases mode <;> rfl
    cases hop : s.ctrl.state.isOperating with
    | false =>
      rw [hop, if_neg Bool.false_ne_true] at hexec
      refine ⟨_, hexec, rfl, rfl, fun _ => rfl, nofun, fun _ hst => ?_⟩
      rw [hst] at hop
      cases hop
    | true =>
      rw [hop, if_pos rfl] at hexec
      cases mode with
      | localMode =>
        rw [if_pos rfl] at hexec
        exact ⟨_, hexec, rfl, rfl, fun h => (h.elim (fun h => by cases h) fun h => by cases h.1), fun _ _ => rfl, nofun⟩
      | groupMode =>
        by_cases hst : s.ctrl.state = .jog
        · obtain ⟨hleaves, hfollows, hbus, htnow, hkept, hready⟩ :=
            State.leavesJog_by now { s.request with mode := .groupMode, modeFrom := some now } hst
          have hleft : (s.withRequest now { s.request with mode := .groupMode, modeFrom := some now }).leaveJogIfIn
              = (s.withRequest now { s.request with mode := .groupMode, modeFrom := some now }).leaveJog := if_pos hst
          rw [if_neg (by simp), hleft] at hexec
          generalize (s.withRequest now { s.request with mode := .groupMode, modeFrom := some now }).leaveJog = t at *
          refine ⟨t, hexec, htnow, ?_, fun h => (h.elim (fun h => by cases h) fun h => absurd hst h.2), nofun, fun _ _ => ?_⟩
          · rcases hkept with h | h <;> rw [h]
          · rw [htnow]
            refine ⟨hleaves, hfollows, hbus, fun hset hholds hraise => ?_⟩
            obtain ⟨hstate, hrequest, hpeers, hcommanded⟩ := hready hset hholds hraise
            exact ⟨hstate, hpeers, hcommanded, hrequest⟩
        · have hstays : (s.withRequest now { s.request with mode := .groupMode, modeFrom := some now }).leaveJogIfIn
              = s.withRequest now { s.request with mode := .groupMode, modeFrom := some now } := if_neg hst
          rw [if_neg (by simp), hstays] at hexec
          exact ⟨_, hexec, rfl, rfl, fun _ => rfl, nofun, fun _ h => absurd h hst⟩

end Sys2Proof.Machine
end

section
/-! The pendant's presence: a pendant that leaves releases every key, and one that comes blocks them. -/

namespace Sys2Proof.Machine

/-! ## Every key released -/

/-- A key after a filtered release, where it reads PRESSED (R127). -/
def KeyInput.letGo (k : KeyInput) (now : Time) : KeyInput :=
  if k.pressed then { k with pressed := false, filterFrom := some now } else k

/-- The request unit after a release of a key, where it reads PRESSED. -/
def RequestUnit.forced (r : RequestUnit) (now : Time) (key : Key) (operating : Bool) : RequestUnit :=
  if (r.key key).pressed then r.released now key operating else r

section Forced

variable (r : RequestUnit) (now : Time) (operating : Bool)

theorem RequestUnit.forced_raise : r.forced now .raise operating = { r with
    raiseKey := r.raiseKey.letGo now
    sequence := if operating && (r.raiseKey.pressed && decide (r.sequence.map Sequence.kind = some .raise)) then none
      else r.sequence } := by
  have hkey : r.key .raise = r.raiseKey := rfl
  unfold RequestUnit.forced RequestUnit.released KeyInput.letGo
  rw [hkey]
  cases r.raiseKey.pressed with
  | false => simp
  | true => cases r.sequence <;> simp [RequestUnit.setKey, keyKind]

theorem RequestUnit.forced_lower : r.forced now .lower operating = { r with
    lowerKey := r.lowerKey.letGo now
    sequence := if operating && (r.lowerKey.pressed && decide (r.sequence.map Sequence.kind = some .lower)) then none
      else r.sequence } := by
  have hkey : r.key .lower = r.lowerKey := rfl
  unfold RequestUnit.forced RequestUnit.released KeyInput.letGo
  rw [hkey]
  cases r.lowerKey.pressed with
  | false => simp
  | true => cases r.sequence <;> simp [RequestUnit.setKey, keyKind]

theorem RequestUnit.forced_reset : r.forced now .reset operating = { r with resetKey := r.resetKey.letGo now } := by
  have hkey : r.key .reset = r.resetKey := rfl
  unfold RequestUnit.forced RequestUnit.released KeyInput.letGo
  rw [hkey]
  cases r.resetKey.pressed with
  | false => simp
  | true => cases r.sequence <;> simp [RequestUnit.setKey, keyKind]

/-- Every key let go, in the order in which the pendant's leaving releases them. -/
def RequestUnit.forcedAll : RequestUnit :=
  ((r.forced now .raise operating).forced now .lower operating).forced now .reset operating

/-- With every key let go the sequence of a pressed key ends, from ASSEMBLING on (R127, R133). -/
theorem RequestUnit.forcedAll_eq : r.forcedAll now operating = { r with
    raiseKey := r.raiseKey.letGo now, lowerKey := r.lowerKey.letGo now, resetKey := r.resetKey.letGo now
    sequence := if r.sequence.any (fun q => (r.key (if q.kind = .raise then .raise else .lower)).pressed) && operating
      then none else r.sequence } := by
  rw [RequestUnit.forcedAll, RequestUnit.forced_reset, RequestUnit.forced_lower, RequestUnit.forced_raise]
  cases hq : r.sequence with
  | none => simp
  | some q =>
    have hkey : r.key .raise = r.raiseKey ∧ r.key .lower = r.lowerKey := ⟨rfl, rfl⟩
    cases hk : q.kind <;> cases operating <;> simp [hk, hkey]

end Forced

/-- A release in a state in which its key holds no jog. -/
theorem State.forceRelease_stays {x : State} {key : Key}
    (h : x.ctrl.state = .jog → key = holdingKey x.ctrl.jogDirection → (x.request.key key).pressed = false) :
    x.forceRelease key = x.withRequest x.now (x.request.forced x.now key x.ctrl.state.isOperating) := by
  unfold State.forceRelease RequestUnit.forced
  cases hp : (x.request.key key).pressed with
  | false => rfl
  | true =>
    rw [if_pos rfl, if_pos rfl, State.releaseKey_eq, if_neg]
    rintro ⟨hst, hkey⟩
    rw [h hst hkey] at hp
    cases hp

/-- A release of the key that holds the jog. -/
theorem State.forceRelease_leaves {x : State} {key : Key} (hst : x.ctrl.state = .jog)
    (hkey : key = holdingKey x.ctrl.jogDirection) (hpressed : (x.request.key key).pressed = true) :
    x.forceRelease key = (x.withRequest x.now (x.request.forced x.now key x.ctrl.state.isOperating)).leaveJog := by
  rw [State.forceRelease, RequestUnit.forced, if_pos hpressed, if_pos hpressed, State.releaseKey_eq, if_pos ⟨hst, hkey⟩]

/-! ## A release after the jog it does not hold -/

/-- A key let go leaves the slots, and lets an emptied table be. -/
theorem RequestUnit.forced_emptied (r : RequestUnit) (now : Time) (key : Key) (operating : Bool) :
    ({ r with slots := Vector.replicate 24 none, sequence := none } : RequestUnit).forced now key operating
      = { r.forced now key operating with slots := Vector.replicate 24 none, sequence := none } := by
  cases key
  · rw [RequestUnit.forced_raise, RequestUnit.forced_raise]
    simp
  · rw [RequestUnit.forced_lower, RequestUnit.forced_lower]
    simp
  · rw [RequestUnit.forced_reset, RequestUnit.forced_reset]

theorem RequestUnit.forced_slots (r : RequestUnit) (now : Time) (key : Key) (operating : Bool) :
    (r.forced now key operating).slots = r.slots := by
  cases key
  · rw [RequestUnit.forced_raise]
  · rw [RequestUnit.forced_lower]
  · rw [RequestUnit.forced_reset]

/-- The tables read of the request unit the slots alone. -/
theorem SettlesFrom.withKeys {s t : State} {r r' rt : RequestUnit} (h : SettlesFrom { s with request := r } t)
    (hslots : r'.slots = r.slots) (hsame : t.request = r → rt = r')
    (hemptied : t.request = { r with slots := Vector.replicate 24 none, sequence := none } →
      rt = { r' with slots := Vector.replicate 24 none, sequence := none }) :
    SettlesFrom { s with request := r' } { t with request := rt } := by
  have hcommand : ({ s with request := r' } : State).command = ({ s with request := r } : State).command :=
    congrArg Slot.command hslots
  have hholds : ({ s with request := r' } : State).assemblyHolds = ({ s with request := r } : State).assemblyHolds := rfl
  have hgroup : ({ s with request := r' } : State).groupAssembled = ({ s with request := r } : State).groupAssembled := rfl
  have hmembers : ({ s with request := r' } : State).membersPoised = ({ s with request := r } : State).membersPoised
      ∧ ({ s with request := r' } : State).membersLanded = ({ s with request := r } : State).membersLanded := ⟨rfl, rfl⟩
  obtain ⟨hpoised, hlanded⟩ := hmembers
  have hloses : ({ s with request := r' } : State).losesAssembly = ({ s with request := r } : State).losesAssembly := by
    unfold State.losesAssembly
    rw [hcommand, hholds]
  have hcompletes : ({ s with request := r' } : State).completesAssembly
      = ({ s with request := r } : State).completesAssembly := by
    unfold State.completesAssembly
    rw [hloses, hgroup]
  have hrests : ({ s with request := r' } : State).restsIn = ({ s with request := r } : State).restsIn := by
    unfold State.restsIn
    rw [hcommand, hloses, hcompletes, hpoised, hlanded]
  obtain ⟨hctrl, hentries, hrequest, hlamp⟩ := h
  rw [SettlesFrom, hloses, hcompletes, hrests, hcommand]
  refine ⟨hctrl, hentries, ?_, hlamp⟩
  split
  · next hl => exact hemptied (hrequest.trans (if_pos hl))
  · next hl => exact hsame (hrequest.trans (if_neg hl))

/-- The way out of JOG reads the keys nowhere: a release after it is a release before it. -/
theorem LeavesJog.forced {s t : State} {r : RequestUnit} (h : LeavesJog { s with request := r } t) (now : Time) (key : Key) :
    LeavesJog { s with request := r.forced now key true } { t with request := t.request.forced now key true } := by
  have hslots := r.forced_slots now key true
  have hemptied := r.forced_emptied now key true
  obtain ⟨hready, hassembling, hrest⟩ := h
  refine ⟨fun hset => ?_, fun hclear => ?_, hrest⟩
  · exact SettlesFrom.withKeys (s := { s with ctrl := { s.ctrl with state := .ready } }) (hready hset) hslots
      (fun he => by rw [he]) (fun he => by rw [he]; exact hemptied)
  · obtain ⟨hstate, hassembled, hlamp, hfresh, hcontact, hentries, hrequest⟩ := hassembling hclear
    refine ⟨hstate, hassembled, hlamp, hfresh, hcontact, hentries, ?_⟩
    dsimp only at hrequest ⊢
    rw [hrequest]
    exact hemptied

theorem State.leaveJog_state (x : State) : x.leaveJog.ctrl.state ≠ .jog ∧ x.leaveJog.ctrl.state.isOperating = true := by
  obtain ⟨y, hy, -, hst, -⟩ := x.leaveJog_eq
  rw [hy, y.settleFrom_state]
  refine ⟨fun e => ?_, ?_⟩
  · rw [State.restsIn_jog_iff] at e
    rcases hst with h | h <;> rw [h] at e <;> cases e
  · rw [y.restsIn_isOperating]
    rcases hst with h | h <;> rw [h] <;> rfl

/-- With no key to end a jog the leaving of the pendant is a write of the request unit. -/
theorem State.releaseAll_stays {s : State} {now : Time} {r : RequestUnit}
    (h : s.ctrl.state = .jog → (r.key (holdingKey s.ctrl.jogDirection)).pressed = false) :
    (s.withRequest now r).releaseAll = s.withRequest now (r.forcedAll now s.ctrl.state.isOperating) := by
  have hraise : (s.withRequest now r).forceRelease .raise
      = s.withRequest now (r.forced now .raise s.ctrl.state.isOperating) :=
    State.forceRelease_stays (x := s.withRequest now r) fun hst hkey => by rw [hkey]; exact h hst
  have hlower : (s.withRequest now (r.forced now .raise s.ctrl.state.isOperating)).forceRelease .lower
      = s.withRequest now ((r.forced now .raise s.ctrl.state.isOperating).forced now .lower s.ctrl.state.isOperating) := by
    refine State.forceRelease_stays (x := s.withRequest now (r.forced now .raise _)) fun hst hkey => ?_
    have hheld := h hst
    rw [← (show Key.lower = holdingKey s.ctrl.jogDirection from hkey)] at hheld
    show ((r.forced now .raise _).key .lower).pressed = false
    rw [RequestUnit.forced_raise]
    exact hheld
  have hreset : (s.withRequest now ((r.forced now .raise s.ctrl.state.isOperating).forced now .lower
        s.ctrl.state.isOperating)).forceRelease .reset
      = s.withRequest now (r.forcedAll now s.ctrl.state.isOperating) :=
    State.forceRelease_stays (x := s.withRequest now _) fun _ hkey => absurd hkey.symm (holdingKey_ne_reset _)
  rw [State.releaseAll, hraise, hlower, hreset]

/-- What a pendant that leaves in JOG does: the jog it held has ended, with every key let go. -/
structure EndsJog (s t : State) (now : Time) (r : RequestUnit) : Prop where
  leaves : LeavesJog { s with request := r } t
  follows : OnlyMotionFollows s t
  bus_eq : t.bus = s.bus
  now_eq : t.now = now
  kept : r.Kept t.request
  state_ne : t.ctrl.state ≠ .jog
  operating : t.ctrl.state.isOperating = true

theorem EndsJog.ofLeaveJog {s : State} (now : Time) (r : RequestUnit) (hst : s.ctrl.state = .jog) :
    EndsJog s (s.withRequest now r).leaveJog now r := by
  obtain ⟨hleaves, hfollows, hbus, hnow, hkept, -⟩ := State.leavesJog_by now r hst
  obtain ⟨hne, hop⟩ := (s.withRequest now r).leaveJog_state
  exact ⟨hleaves, hfollows, hbus, hnow, hkept, hne, hop⟩

/-- A release after the jog has ended. -/
theorem EndsJog.forceRelease {s t : State} {now : Time} {r : RequestUnit} (h : EndsJog s t now r) (key : Key) :
    EndsJog s (t.forceRelease key) now (r.forced now key true) := by
  have hrelease : t.forceRelease key = t.withRequest t.now (t.request.forced t.now key t.ctrl.state.isOperating) :=
    State.forceRelease_stays fun hst => absurd hst h.state_ne
  have htnow : t.withRequest now (t.request.forced now key true)
      = { t with request := t.request.forced now key true } := by rw [← h.now_eq]; rfl
  rw [hrelease, h.operating, h.now_eq, htnow]
  refine ⟨h.leaves.forced now key, h.follows, h.bus_eq, h.now_eq, ?_, h.state_ne, h.operating⟩
  · rcases h.kept with he | he
    · exact .inl (congrArg (fun x : RequestUnit => x.forced now key true) he)
    · exact .inr ((congrArg (fun x : RequestUnit => x.forced now key true) he).trans (r.forced_emptied now key true))

theorem State.releaseAll_leaves {s : State} {now : Time} {r : RequestUnit} (hst : s.ctrl.state = .jog)
    (hpressed : (r.key (holdingKey s.ctrl.jogDirection)).pressed = true) :
    EndsJog s (s.withRequest now r).releaseAll now (r.forcedAll now true) := by
  have hop : s.ctrl.state.isOperating = true := by rw [hst]; rfl
  have hleft {key : Key} (hkey : key = holdingKey s.ctrl.jogDirection) (r' : RequestUnit)
      (hp : (r'.key key).pressed = true) :
      EndsJog s ((s.withRequest now r').forceRelease key) now (r'.forced now key true) := by
    rw [State.forceRelease_leaves (x := s.withRequest now r') hst hkey hp]
    have hop' : (s.withRequest now r').ctrl.state.isOperating = true := hop
    rw [hop']
    exact EndsJog.ofLeaveJog now _ hst
  unfold State.releaseAll RequestUnit.forcedAll
  cases hd : s.ctrl.jogDirection with
  | up =>
    rw [hd] at hpressed
    exact ((hleft (key := .raise) (by rw [hd]; rfl) r hpressed).forceRelease .lower).forceRelease .reset
  | down =>
    rw [hd] at hpressed
    have hraise : (s.withRequest now r).forceRelease .raise = s.withRequest now (r.forced now .raise true) := by
      have := State.forceRelease_stays (x := s.withRequest now r) (key := .raise) fun _ hkey => by
        have hkey' : Key.raise = holdingKey s.ctrl.jogDirection := hkey
        rw [hd] at hkey'
        cases hkey'
      have hop' : (s.withRequest now r).ctrl.state.isOperating = true := hop
      rw [hop'] at this
      exact this
    rw [hraise]
    refine (hleft (key := .lower) (by rw [hd]; rfl) _ ?_).forceRelease .reset
    rw [RequestUnit.forced_raise]
    exact hpressed

/-- Settles O39: the presence written, every key let go or blocked, and the jog a pressed key holds ended. -/
theorem pendantPresenceBlocksAndReleasesKeys : Obligations.PendantPresenceBlocksAndReleasesKeys := by
  intro s m key due hrun up
  refine ⟨fun hpresent => ?leaves, fun habsent => ?comes, fun hfree => if_neg (by simp [hfree]), fun hblocked => ?frees,
    fun hlamp => ?dark⟩
  case comes =>
    have hexec : execPendantPresentChange m true s
        = .next (s.withRequest (max s.now (max m (s.request.pendantFrom.getD 0 + 20000)))
          (RequestUnit.blockKeys { s.request with
              pendantPresent := true
              pendantFrom := some (max s.now (max m (s.request.pendantFrom.getD 0 + 20000))) }
            (max s.now (max m (s.request.pendantFrom.getD 0 + 20000))))) := by
      rw [execPendantPresentChange, if_neg (by simp [habsent]), State.onFilter_running _ _ _ _ _ hrun]
      rfl
    exact ⟨_, hexec, rfl, rfl⟩
  case frees =>
    have hexec : execKeyUnblock m key s
        = .next (s.withRequest (max s.now (max m ((s.request.key key).filterFrom.getD 0 + 20000)))
          (s.request.setKey { s.request.key key with
            blocked := false
            filterFrom := some (max s.now (max m ((s.request.key key).filterFrom.getD 0 + 20000))) } key)) := by
      rw [execKeyUnblock, if_pos hblocked, State.onFilter_running _ _ _ _ _ hrun]
      rfl
    exact ⟨_, hexec, rfl, rfl⟩
  case dark =>
    show execRefusedPulseEnd s = _
    rw [execRefusedPulseEnd, State.onTimer_eq hrun hlamp]
    rfl
  case leaves =>
    generalize hnow : max s.now (max m (s.request.pendantFrom.getD 0 + 20000)) = now
    generalize hr : ({ s.request with pendantPresent := false, pendantFrom := some now } : RequestUnit) = r
    have hexec : execPendantPresentChange m false s = .next (s.withRequest now r).releaseAll := by
      rw [execPendantPresentChange, if_neg (by simp [hpresent]), State.onFilter_running _ _ _ _ _ hrun, ← hr, ← hnow]
      rfl
    have hkey (k : Key) : r.key k = s.request.key k := by
      rw [← hr]
      cases k <;> rfl
    have hgone (operating : Bool) : r.forcedAll now operating = { s.request with
        pendantPresent := false, pendantFrom := some now
        raiseKey := up now s.request.raiseKey, lowerKey := up now s.request.lowerKey, resetKey := up now s.request.resetKey
        sequence := if s.request.sequence.any
            (fun q => (s.request.key (if q.kind = .raise then .raise else .lower)).pressed) && operating
          then none else s.request.sequence } := by
      rw [RequestUnit.forcedAll_eq]
      simp only [hkey]
      rw [← hr]
      rfl
    have hkeys (operating : Bool) (r' : RequestUnit) (h : (r.forcedAll now operating).Kept r') :
        r'.pendantPresent = false ∧ ∀ k ∈ [Key.raise, .lower, .reset], r'.key k = up now (s.request.key k) := by
      rw [hgone] at h
      rcases h with h | h <;> rw [h] <;> refine ⟨rfl, fun k _ => ?_⟩ <;> cases k <;> rfl
    by_cases hends : s.ctrl.state = .jog ∧ (s.request.key (holdingKey s.ctrl.jogDirection)).pressed = true
    · obtain ⟨hst, hpressed⟩ := hends
      have hended := State.releaseAll_leaves (now := now) hst (hkey _ ▸ hpressed)
      generalize (s.withRequest now r).releaseAll = t at hexec hended
      obtain ⟨habsent, hlet⟩ := hkeys true _ hended.kept
      refine ⟨t, hexec, hended.now_eq, habsent, hended.follows, ?_, fun hall => ?_, ?_⟩
      · rw [hended.now_eq]
        exact hlet
      · have hholding := hall (holdingKey s.ctrl.jogDirection) (by cases s.ctrl.jogDirection <;> simp [holdingKey])
        rw [hholding] at hpressed
        cases hpressed
      · rw [hended.now_eq]
        refine ⟨fun hne => absurd hst hne, fun _ _ => ⟨?_, hended.bus_eq⟩⟩
        have hleaves := hended.leaves
        rw [hgone true] at hleaves
        rw [hst]
        exact hleaves
    · have hstays := State.releaseAll_stays (s := s) (now := now) (r := r) fun hst => by
        rw [hkey]
        exact Bool.eq_false_iff.2 fun hp => hends ⟨hst, hp⟩
      rw [hstays] at hexec
      obtain ⟨habsent, hlet⟩ := hkeys _ _ (.inl rfl)
      have hmoves : MovesFrom s (s.withRequest now (r.forcedAll now s.ctrl.state.isOperating)) := MovesFrom.withRequest
      refine ⟨_, hexec, rfl, habsent, hmoves.stands rfl, hlet, fun hall => ?_, ?_⟩
      · have hquiet : r.forcedAll now s.ctrl.state.isOperating = r := by
          have hraise := hall .raise (by simp)
          have hlower := hall .lower (by simp)
          have hreset := hall .reset (by simp)
          rw [← hkey] at hraise hlower hreset
          unfold RequestUnit.forcedAll RequestUnit.forced
          simp [hraise, hlower, hreset]
        rw [hquiet, ← hr]
        rfl
      · refine ⟨fun _ => congrArg (s.withRequest now) (hgone _), fun hst hp => absurd ⟨hst, hp⟩ hends⟩

end Sys2Proof.Machine
end

section
/-! The control-timer expiry: the reference and the lead, the output formed, and the spread. -/

namespace Sys2Proof.Machine

/-! ## The least and the greatest of the lifts -/

/-- The least of a lift and of others is one of them, and no greater than any. -/
theorem foldl_min_spec (own : Nat) (lifts : List Nat) :
    lifts.foldl min own ∈ own :: lifts ∧ ∀ x ∈ own :: lifts, lifts.foldl min own ≤ x := by
  induction lifts generalizing own with
  | nil => simp
  | cons y ys ih =>
    obtain ⟨hmem, hle⟩ := ih (min own y)
    rw [List.foldl_cons]
    refine ⟨?_, fun x hx => ?_⟩
    · rcases List.mem_cons.1 hmem with h | h
      · rw [h]
        rcases min_choice own y with hm | hm <;> simp [hm]
      · simp [h]
    · have hleast := hle (min own y) List.mem_cons_self
      rcases List.mem_cons.1 hx with rfl | hx
      · exact hleast.trans (min_le_left _ _)
      · rcases List.mem_cons.1 hx with rfl | hx
        · exact hleast.trans (min_le_right _ _)
        · exact hle x (List.mem_cons_of_mem _ hx)

/-- The greatest of a lift and of others is one of them, and no less than any. -/
theorem foldl_max_spec (own : Nat) (lifts : List Nat) :
    lifts.foldl max own ∈ own :: lifts ∧ ∀ x ∈ own :: lifts, x ≤ lifts.foldl max own := by
  induction lifts generalizing own with
  | nil => simp
  | cons y ys ih =>
    obtain ⟨hmem, hle⟩ := ih (max own y)
    rw [List.foldl_cons]
    refine ⟨?_, fun x hx => ?_⟩
    · rcases List.mem_cons.1 hmem with h | h
      · rw [h]
        rcases max_choice own y with hm | hm <;> simp [hm]
      · simp [h]
    · have hgreatest := hle (max own y) List.mem_cons_self
      rcases List.mem_cons.1 hx with rfl | hx
      · exact (le_max_left _ _).trans hgreatest
      · rcases List.mem_cons.1 hx with rfl | hx
        · exact (le_max_right _ _).trans hgreatest
        · exact hle x (List.mem_cons_of_mem _ hx)

/-! ## Predictions, reference and lead -/

/-- A prediction is that of a FRESH member that holds a lift (R81). -/
theorem Entry.predict_eq_some {now : Time} {e : Entry} {p : Nat × Nat} (h : e.predict now = some p) :
    ∃ c l arrival, e.member = true ∧ e.status = .fresh ∧ e.content = some c ∧ c.lift = some l
      ∧ e.lastArrival = some arrival ∧ p = (c.bodyIndex, predictedLift l c.velocity (min ((now - arrival) / 1000) 100)) := by
  unfold Entry.predict at h
  split at h
  · next c arrival hc ha =>
    split at h
    · next hfresh =>
      obtain ⟨l, hl, rfl⟩ := Option.map_eq_some_iff.1 h
      exact ⟨c, l, arrival, hfresh.1, hfresh.2, hc, hl, ha, rfl⟩
    · cases h
  · cases h

theorem State.predictions_from_members (s : State) :
    ∀ p ∈ s.predictions, ∃ n e c l arrival, Table.get s.peers.entries n = some e ∧ e.member = true
      ∧ e.status = .fresh ∧ e.content = some c ∧ c.lift = some l ∧ e.lastArrival = some arrival
      ∧ p = (c.bodyIndex, predictedLift l c.velocity (min ((s.now - arrival) / 1000) 100)) := by
  intro p hp
  obtain ⟨e, he, hpredict⟩ := List.mem_filterMap.1 hp
  obtain ⟨n, hget⟩ := (Table.mem_iff_exists_get _ _).1 he
  obtain ⟨c, l, arrival, hmember, hfresh, hc, hl, ha, rfl⟩ := Entry.predict_eq_some hpredict
  exact ⟨n, e, c, l, arrival, hget, hmember, hfresh, hc, hl, ha, rfl⟩

/-- Settles O30: the two scans of the reference, and the entries the predictions come from. -/
theorem referenceIsLeastOrGreatestLift : Obligations.ReferenceIsLeastOrGreatestLift := by
  intro own lifts dir hown hlifts
  have hbound : ∀ x ∈ own :: lifts, x ≤ 200000 := by
    intro x hx
    rcases List.mem_cons.1 hx with rfl | hx
    · exact hown
    · exact hlifts x hx
  refine ⟨?_, fun s => ⟨rfl, s.predictions_from_members⟩⟩
  cases dir with
  | up =>
    obtain ⟨hmem, hle⟩ := foldl_min_spec own lifts
    have hr : reference .up own lifts ≤ own := hle own List.mem_cons_self
    have hlead : lead .up own (reference .up own lifts) = own - reference .up own lifts := rfl
    refine ⟨hmem, fun _ => hle, nofun, fun hnil => by rw [hnil]; rfl, ?_, fun he => ?_, ?_⟩
    · rw [if_pos rfl, hlead]
      omega
    · rw [← he]
      exact Nat.sub_self own
    · rw [hlead]
      omega
  | down =>
    obtain ⟨hmem, hle⟩ := foldl_max_spec own lifts
    have hr : own ≤ reference .down own lifts := hle own List.mem_cons_self
    have hmax : reference .down own lifts ≤ 200000 := hbound _ hmem
    have hlead : lead .down own (reference .down own lifts) = reference .down own lifts - own := rfl
    refine ⟨hmem, nofun, fun _ => hle, fun hnil => by rw [hnil]; rfl, ?_, fun he => ?_, ?_⟩
    · rw [if_neg (by simp), hlead]
      omega
    · rw [← he]
      exact Nat.sub_self own
    · rw [hlead]
      omega

/-! ## The spread -/

/-- Two lifts lie more than a limit apart exactly when the greatest and the least do (R100, R101). -/
theorem lt_spread_iff (own : Nat) (lifts : List Nat) (limit : Nat) :
    limit < spread own lifts ↔ ∃ x ∈ own :: lifts, ∃ y ∈ own :: lifts, y + limit < x := by
  obtain ⟨hleast, hle⟩ := foldl_min_spec own lifts
  obtain ⟨hgreatest, hge⟩ := foldl_max_spec own lifts
  unfold spread
  constructor
  · intro h
    exact ⟨_, hgreatest, _, hleast, by omega⟩
  · rintro ⟨x, hx, y, hy, h⟩
    have hlow := hle y hy
    have hhigh := hge x hx
    omega

/-- The causes of the spread checks, by the lifts that lie too far apart (R100 to R102). -/
theorem State.spreadCauses_eq {s : State} {o : Options} (hconfig : s.start.config = some o) (setBeyond bodyBeyond : Prop)
    [Decidable setBeyond] [Decidable bodyBeyond]
    (hset : setBeyond ↔ s.ctrl.state.isSeated = true
      ∧ o.spreadSet < spread (s.ownLift.getD 0) (s.predictions.map Prod.snd))
    (hbody : bodyBeyond ↔ s.ctrl.state.isSeated = true ∧ o.spreadBody < spread (s.ownLift.getD 0)
      ((s.predictions.filter (fun p => p.1 == o.bodyIndex)).map Prod.snd)) :
    s.spreadCauses = (if setBeyond then [.spreadSet] else []) ++ (if bodyBeyond then [.spreadBody] else []) := by
  unfold State.spreadCauses
  rw [hconfig]
  dsimp only
  cases hseated : s.ctrl.state.isSeated with
  | false => simp [hset, hbody, hseated]
  | true => simp [hset, hbody, hseated]

/-- An event of spread causes at an expiry, from a state in which the checks run. -/
theorem State.formOutput_halts {s : State} {due : Time} {causes rest : List Cause} {first : Cause}
    (hseated : s.ctrl.state.isSeated = true) (hinsert : Cause.insertAll causes [] = first :: rest)
    (hfirst : first ≠ .peerHalted) :
    EntersHalted s (((s.tick due).formOutput due).takeCauses causes) causes first s.ownNumber := by
  have hhalts : HaltsAs s ((s.tick due).formOutput due) := ⟨rfl, rfl, rfl, id, rfl, rfl, rfl⟩
  obtain ⟨-, -, henters, -⟩ := hhalts.takesCauses hinsert 0
  have horigin : ((s.tick due).formOutput due).originOf first 0 = s.ownNumber := if_neg hfirst
  rw [horigin] at henters
  refine henters ?_ ?_
  · revert hseated
    cases s.ctrl.state <;> simp [StationState.isSeated, StationState.isOperating]
  · rintro e
    rw [e] at hseated
    cases hseated

/-- Settles O33: the causes of the checks are those of the spreads beyond their limits, as one event. -/
theorem spreadBeyondALimitHalts : Obligations.SpreadBeyondALimitHalts := by
  intro s due o hrun hdue hconfig hlaw
  have hexec : execControlTimerExpiry s = .next (((s.tick due).formOutput due).takeCauses (s.tick due).spreadCauses) := by
    rw [execControlTimerExpiry, State.onTimer_eq hrun hdue]
  obtain ⟨-, hstart, hpeers, hrequest, -, -, -, hstroke, -⟩ :=
    ((s.tick due).formOutput due).takeCauses_frame (s.tick due).spreadCauses 0
  refine ⟨_, hexec, hstart, hpeers, hrequest, hstroke, ?_⟩
  intro own lifts body setBeyond bodyBeyond
  classical
  have hcauses : (s.tick due).spreadCauses
      = (if setBeyond then [.spreadSet] else []) ++ (if bodyBeyond then [.spreadBody] else []) :=
    State.spreadCauses_eq (s := s.tick due) hconfig setBeyond bodyBeyond (and_congr_right fun _ => (lt_spread_iff _ _ _).symm)
      (and_congr_right fun _ => (lt_spread_iff _ _ _).symm)
  rw [hcauses]
  refine ⟨fun ⟨h, h'⟩ => ?_, fun ⟨h, h'⟩ => ?_, fun ⟨h, h'⟩ => ?_, fun ⟨h, h'⟩ => ?_⟩
  · rw [if_pos h, if_pos h']
    exact State.formOutput_halts h.1 rfl (by simp)
  · rw [if_pos h, if_neg h']
    exact State.formOutput_halts h.1 rfl (by simp)
  · rw [if_neg h, if_pos h']
    exact State.formOutput_halts h'.1 rfl (by simp)
  · rw [if_neg h, if_neg h']
    exact ⟨rfl, rfl, rfl, rfl⟩

end Sys2Proof.Machine
end

section
/-! The output formed at a control-timer expiry. -/

namespace Sys2Proof.Machine

/-! ## The hand-over, item by item -/

/-- The hand-over of an output and a direction (R99, R150 to R152, R155). -/
theorem Drive.handOver_eq (d : Drive) (dMin : Nat) (x : Int) (c : Nat) (dir : Direction) :
    d.handOver dMin x c dir = { d with
      commandedCopy := c, direction := dir
      applied := if d.brake = .released ∧ d.direction = dir then c else 0
      stall := if d.direction ≠ dir ∨ (if d.brake = .released ∧ d.direction = dir then c else 0) < dMin then 0 else d.stall
      extreme := if d.direction ≠ dir ∧ d.brake = .released then some x else d.extreme } := by
  unfold Drive.handOver
  by_cases hd : d.direction = dir
  · rw [if_pos hd]
    by_cases hb : d.brake = .released
    · simp [hd, hb]
    · simp [hd, hb]
  · rw [if_neg hd]
    simp [hd]

/-- The part after its output is formed. -/
theorem State.formOutput_eq (s : State) (due : Time) :
    let e := s.engine.expiry due (s.start.ceiling s.ctrl.state) s.clampedDemand s.start.rise
      (s.ctrl.state.motion s.ctrl.jogDirection)
    s.formOutput due = { s with
      engine := e
      drive := s.drive.handOver s.start.dMin s.meas.stroke e.commanded e.direction } := rfl

/-! ## The ceiling, the demand and the clamps -/

/-- The ceiling of a state in force, halved by a derate (R86, R87). -/
theorem StartUnit.ceiling_of_state {u : StartUnit} {o : Options} (h : u.config = some o) (st : StationState) :
    let full := if st = .lifting then o.vRaise else if st = .lowering then o.vLower
      else if st = .seating ∨ st = .unseating ∨ st = .jog then o.seatSpeed else 0
    u.ceiling st = if o.policy = .derate ∧ u.supplyLow = true then full / 2 else full := by
  rw [StartUnit.ceiling, h]
  cases st <;> rfl

/-- The demand of a state (R89, R90). -/
theorem State.demand_eq (s : State) (o : Options) (c : Nat) :
    let e := if s.ctrl.state = .lowering then s.leadOf .down else s.leadOf .up
    s.demand o c = if s.ctrl.state = .lifting ∨ s.ctrl.state = .lowering
        then (if o.window ≤ e then 0 else max o.dMin (c * (o.window - e) / o.window))
      else if s.ctrl.state = .seating ∨ s.ctrl.state = .jog ∨ (s.ctrl.state = .unseating ∧ s.command = .lower) then c
      else 0 := by
  unfold State.demand leadDemand
  cases hst : s.ctrl.state <;> simp

/-- The clamps (R91 to R93). -/
theorem State.clamped_iff (s : State) (o : Options) :
    s.clamped o = true ↔
      (s.ctrl.state.motion s.ctrl.jogDirection = some .up ∧ s.meas.upperEnd = true)
        ∨ (s.ctrl.state.motion s.ctrl.jogDirection = some .down ∧ s.meas.lowerEnd = true)
        ∨ (s.ctrl.state = .lowering ∧ ∃ x ∈ s.ctrl.contact, s.meas.stroke ≤ x)
        ∨ (s.ctrl.state = .jog ∧ s.ctrl.state.motion s.ctrl.jogDirection = some .up ∧ o.contactThreshold ≤ s.meas.load) := by
  have hlanding : s.unclampedLift.any (fun x => decide (x ≤ 0)) = true ↔ ∃ x ∈ s.ctrl.contact, s.meas.stroke ≤ x := by
    unfold State.unclampedLift
    cases s.ctrl.contact with
    | none => simp
    | some x => simp
  simp only [State.clamped, Bool.or_eq_true, Bool.and_eq_true, beq_iff_eq, decide_eq_true_eq, hlanding, or_assoc, and_assoc]

/-- Settles O32: the engine's expiry by its parts, and the hand-over of what it forms. -/
theorem controlExpiryFormsTheOutput : Obligations.ControlExpiryFormsTheOutput := by
  intro s due hrun hdue hspread
  have hexec : execControlTimerExpiry s = .next ((s.tick due).formOutput due) := by
    rw [execControlTimerExpiry, State.onTimer_eq hrun hdue, hspread, State.takeCauses_nil]
  have heq := (s.tick due).formOutput_eq due
  dsimp only at heq
  generalize he : (s.tick due).engine.expiry due ((s.tick due).start.ceiling (s.tick due).ctrl.state)
    (s.tick due).clampedDemand (s.tick due).start.rise ((s.tick due).ctrl.state.motion (s.tick due).ctrl.jogDirection) = e
    at heq
  generalize hd : (s.tick due).drive.handOver (s.tick due).start.dMin (s.tick due).meas.stroke e.commanded e.direction = d
    at heq
  have hdrive := Drive.handOver_eq s.drive s.start.dMin s.meas.stroke e.commanded e.direction
  have hd' : s.drive.handOver s.start.dMin s.meas.stroke e.commanded e.direction = d := hd
  rw [hd'] at hdrive
  have hdirection : e.direction = (s.ctrl.state.motion s.ctrl.jogDirection).getD s.engine.direction := by rw [← he]; rfl
  have hceiling : e.lastCeiling = s.start.ceiling s.ctrl.state := by rw [← he]; rfl
  have hcommanded : e.commanded = min (ramp s.start.rise
      (if (s.ctrl.state.motion s.ctrl.jogDirection).getD s.engine.direction = s.engine.direction then s.engine.commanded else 0)
      (s.tick due).clampedDemand) (s.start.ceiling s.ctrl.state) := by rw [← he]; rfl
  have happlied : d.applied = if s.drive.brake = .released ∧ s.drive.direction = e.direction then e.commanded else 0 :=
    congrArg Drive.applied hdrive
  rw [heq] at hexec
  refine ⟨_, hexec, rfl, by rw [← he]; rfl, fun hnone => ?absent, fun o ho => ?present⟩
  case absent =>
    have hzero : s.start.ceiling s.ctrl.state = 0 := by rw [StartUnit.ceiling, hnone]
    have hdMin : s.start.dMin = 0 := by rw [StartUnit.dMin, hnone]; rfl
    have hnothing : e.commanded = 0 := by rw [hcommanded, hzero, Nat.min_zero]
    refine ⟨hceiling.trans hzero, hnothing, hdirection, ?_⟩
    rw [hdrive, hnothing, hdMin]
    simp
  case present =>
    intro st dir full c e' formed clamped demand turns previous
    have hc : s.start.ceiling s.ctrl.state = c := StartUnit.ceiling_of_state ho s.ctrl.state
    have hdMin : s.start.dMin = o.dMin := by rw [StartUnit.dMin, ho]; rfl
    have hdemand : (s.tick due).clampedDemand = demand := by
      have hclamped : (s.tick due).clamped o = true ↔ clamped := (s.tick due).clamped_iff o
      have hformed : (s.tick due).demand o c = formed := (s.tick due).demand_eq o c
      have hceiling' : (s.tick due).start.ceiling (s.tick due).ctrl.state = c := hc
      have hunclamped : (s.tick due).clampedDemand = if (s.tick due).clamped o then 0
          else (s.tick due).demand o ((s.tick due).start.ceiling (s.tick due).ctrl.state) := by
        have ho' : (s.tick due).start.config = some o := ho
        rw [State.clampedDemand, ho']
      rw [hunclamped, hceiling', hformed]
      by_cases h : clamped
      · exact (if_pos (hclamped.2 h)).trans (if_pos h).symm
      · exact (if_neg fun e => h (hclamped.1 e)).trans (if_neg h).symm
    have hprevious : (if (s.ctrl.state.motion s.ctrl.jogDirection).getD s.engine.direction = s.engine.direction
        then s.engine.commanded else 0) = previous := by
      have hturns : turns ↔ ¬(s.ctrl.state.motion s.ctrl.jogDirection).getD s.engine.direction = s.engine.direction := by
        show (dir.isSome = true ∧ dir ≠ some s.engine.direction) ↔ ¬dir.getD s.engine.direction = s.engine.direction
        cases dir <;> simp
      by_cases h : turns
      · exact (if_neg (hturns.1 h)).trans (if_pos h).symm
      · exact (if_pos (not_not.1 fun e => h (hturns.2 e))).trans (if_neg h).symm
    refine ⟨hceiling.trans hc, hdirection, ?_, fun hb hsame => ?_, fun hb => ?_, fun hturned => ?_, ?_⟩
    · rw [hcommanded, hc, hdemand, hprevious, StartUnit.rise, ho]
      rfl
    · exact happlied.trans (if_pos ⟨hb, hsame⟩)
    · exact happlied.trans (if_neg fun h => hb h.1)
    · exact happlied.trans (if_neg fun h => hturned h.2)
    · rw [← happlied, hdMin] at hdrive
      exact hdrive

end Sys2Proof.Machine
end

section
/-! The encoder and the sample timer: one count judged by the creep watch, and the velocity with the stall counter. -/

namespace Sys2Proof.Machine

/-! ## The sample timer -/

theorem pushRing_toList (ring : Vector Int 11) (filled : Bool) (x : Int) :
    (pushRing ring filled x).toList = if filled then ring.toList.tail ++ [x] else List.replicate 11 x := by
  unfold pushRing
  cases filled with
  | true => simp [Vector.toList]
  | false => simp [Vector.toList]

/-- The measurement unit at a sample-timer expiry (R35, R36, R38). -/
def Measurement.sampledAt (m : Measurement) (due now : Time) : Measurement :=
  { m.sample with sampleTimer := some (due + 10000), converterRead := some (now + 20) }

/-- The port's lines in the read that an expiry begins, by the microseconds since it (R38). -/
theorem Measurement.port_lines {m : Measurement} {now : Time} (h : m.converterRead = some (now + 20)) :
    ∃ first release : Nat, first + 16 ≤ release ∧ release ≤ 20 ∧ ∀ x : Nat,
      m.selectLine (now + x) = decide (x < release)
        ∧ m.clockPeriod (now + x) = (if first ≤ x ∧ x < first + 16 then some (x - first) else none) :=
  ⟨converterFirstClock (now + 20), converterRelease (now + 20), (converterRelease_bounds _).1, (converterRelease_bounds _).2,
    fun x => m.port_reading now x h⟩

/-- The stall counter that raised STALL stands at 0 after it (R153). -/
theorem State.takeCauses_stall {x : State} (h : x.drive.stall = 0) : (x.takeCauses [.stall]).drive.stall = 0 := by
  rw [State.takeCauses_eq 0 (causes := [.stall]) (first := .stall) (rest := []) rfl]
  by_cases hop : x.ctrl.state.isOperating = false
  · rw [if_pos hop, h]
  rw [if_neg hop]
  by_cases hhalted : x.ctrl.state = .halted
  · rw [if_pos hhalted]
    exact h
  · rw [if_neg hhalted, State.enterHalted_drive (h := hhalted)]
    rfl

/-- The stall counter steps under the watch's conditions, and else stands at 0 (R152). -/
theorem Drive.stallAfter_eq (d : Drive) (dMin : Nat) (v : Int) :
    d.stallAfter dMin v = if d.brake = .released ∧ dMin ≤ d.applied ∧ -1 ≤ v ∧ v ≤ 1 then d.stall + 1 else 0 := rfl

/-- Settles O25: the sample taken in every state, then the stall counter by its conditions. -/
theorem sampleExpiryFormsVelocityAndWatchesStall : Obligations.SampleExpiryFormsVelocityAndWatchesStall := by
  intro s due hrun hdue
  generalize hm : s.meas.sampledAt due (max s.now due) = m
  generalize hn : s.drive.stallAfter s.start.dMin m.velocity = n
  generalize hx : ({ s with now := max s.now due, meas := m, drive := { s.drive with stall := 0 } } : State) = x
  have hexec : execSampleTimerExpiry s = .next (if n < 100
      then { s with now := max s.now due, meas := m, drive := { s.drive with stall := n } } else x.takeCauses [.stall]) := by
    rw [execSampleTimerExpiry, State.onTimer_eq hrun hdue, ← hx, ← hn, ← hm]
    rfl
  obtain ⟨htnow, htstart, htpeers, htrequest, -⟩ := x.takeCauses_frame [.stall] 0
  have htmeas := x.takeCauses_meas [.stall] 0
  generalize ht : (if n < 100 then ({ s with now := max s.now due, meas := m, drive := { s.drive with stall := n } } : State)
    else x.takeCauses [.stall]) = t at hexec
  have hframe : t.now = max s.now due ∧ t.start = s.start ∧ t.peers = s.peers ∧ t.request = s.request
      ∧ t.meas = { m with contact := t.meas.contact, release := t.meas.release, unseat := t.meas.unseat } := by
    rw [← ht]
    split
    · exact ⟨rfl, rfl, rfl, rfl, rfl⟩
    · rw [htnow, htstart, htpeers, htrequest]
      refine ⟨by rw [← hx], by rw [← hx], by rw [← hx], by rw [← hx], htmeas.trans ?_⟩
      have hxm : x.meas = m := by rw [← hx]
      rw [hxm]
  obtain ⟨hnow, hstart, hpeers, hrequest, hmeas⟩ := hframe
  have hvelocity : t.meas.velocity = m.velocity := by rw [hmeas]
  have hring : t.meas.ring = m.ring := by rw [hmeas]
  have hread : t.meas.converterRead = some (max s.now due + 20) := by
    rw [hmeas, ← hm]
    rfl
  refine ⟨t, hexec, hnow, ?_, ?_, ?_, ?_, ?_, hnow ▸ hread, ?_, ?_, hpeers, hrequest, hstart,
    hnow ▸ Measurement.port_lines hread, ?_⟩
  · rw [hmeas, ← hm]; rfl
  · rw [hring, ← hm]
    exact pushRing_toList _ _ _
  · rw [hmeas, ← hm]; rfl
  · rw [hvelocity, hring, ← hm]; rfl
  · rw [hmeas, ← hm]; rfl
  · rw [hmeas, ← hm]; rfl
  · rw [hmeas, ← hm]; rfl
  rw [hvelocity, hnow]
  intro dMin counts
  have hsteps : n = if counts then s.drive.stall + 1 else 0 := by rw [← hn]; rfl
  refine ⟨fun hno => ?_, fun hyes hlow => ?_, fun hyes hhigh => ?_⟩
  · rw [if_neg hno] at hsteps
    rw [← ht, hsteps, if_pos (by simp)]
  · rw [if_pos hyes] at hsteps
    rw [← ht, hsteps, if_pos (by omega)]
  · rw [if_pos hyes] at hsteps
    rw [if_neg (by omega)] at ht
    have hhalts : HaltsAs s x := by rw [← hx]; exact ⟨rfl, rfl, rfl, id, rfl, rfl, rfl⟩
    have htakes := hhalts.takesCauses (causes := [.stall]) rfl 0
    have horigin : x.originOf .stall 0 = s.ownNumber := by rw [← hx]; rfl
    rw [horigin, ht] at htakes
    exact ⟨by rw [← ht]; exact State.takeCauses_stall (by rw [← hx]), htakes⟩

end Sys2Proof.Machine
end

section
/-! The encoder: one edge counted or a phase error, and the creep watch at each count. -/

namespace Sys2Proof.Machine

/-! ## One edge of the encoder -/

/-- What an encoder sample counts, by the channels that have changed (R32 to R34). -/
theorem countStroke_encoderStep (x : Int) (a b a' b' : Bool) :
    let one := (a' != a) != (b' != b)
    countStroke x (encoderStep a b a' b') = if one && a' == !b && b' == a then (if x < 1000000 then x + 1 else x)
      else if one then (if -1000000 < x then x - 1 else x) else x := by
  cases a <;> cases b <;> cases a' <;> cases b' <;> rfl

theorem encoderStep_phaseError_iff (a b a' b' : Bool) :
    encoderStep a b a' b' = .phaseError ↔ ((a' != a) && (b' != b)) = true := by
  cases a <;> cases b <;> cases a' <;> cases b' <;> decide

/-- A sample with no channel changed has the levels of the last one. -/
theorem levels_eq_of_no_change {a b a' b' : Bool} (hone : ((a' != a) != (b' != b)) = false)
    (hboth : ((a' != a) && (b' != b)) = false) : a' = a ∧ b' = b := by
  revert hone hboth
  cases a <;> cases b <;> cases a' <;> cases b' <;> decide

/-- The part with the levels of a sample taken. -/
def State.sampled (s : State) (m : Time) (a b : Bool) : State :=
  { s.tick m with meas := { s.meas with encoderA := a, encoderB := b } }

theorem execEncoderEdge_eq {s : State} (m : Time) (a b : Bool) (hrun : s.start.resetHeld = false) :
    execEncoderEdge m a b s = .next (
      let step := encoderStep s.meas.encoderA s.meas.encoderB a b
      let x := countStroke s.meas.stroke step
      if step = .phaseError then (s.sampled m a b).takeCauses [.sensor]
      else if x = s.meas.stroke then s.sampled m a b else (s.sampled m a b).countEdge x) := by
  rw [execEncoderEdge, State.onEvent_running _ _ _ hrun]
  generalize hstep : encoderStep s.meas.encoderA s.meas.encoderB a b = step
  have htick : encoderStep (s.tick m).meas.encoderA (s.tick m).meas.encoderB a b = step := hstep
  dsimp only
  rw [htick]
  cases step with
  | unchanged => exact congrArg Host.Outcome.next ((if_neg nofun).trans (if_pos rfl)).symm
  | phaseError => exact congrArg Host.Outcome.next (if_pos rfl).symm
  | forward => exact congrArg Host.Outcome.next (if_neg nofun).symm
  | backward => exact congrArg Host.Outcome.next (if_neg nofun).symm

/-! ## What a count leaves of the measurement unit -/

theorem State.settle_meas (s : State) : s.settle.meas = { s.meas with
    contact := s.settle.meas.contact, release := s.settle.meas.release, unseat := s.settle.meas.unseat } := by
  have h := s.settleFrom_meas s.ctrl.state
  rw [State.settle, h]
  split <;> rfl

/-- The part after the creep watch of one count, before its cause is taken. -/
def State.watched (s : State) (x : Int) : State :=
  { s with meas := { s.meas with stroke := x }, drive := (s.drive.watchCreep s.start.creepLimit x).1 }

/-- One count, by the creep watch's verdict (R154 to R156). -/
theorem State.countEdge_eq (s : State) (x : Int) :
    s.countEdge x = if s.ctrl.state.isOperating = true then
        (if (s.drive.watchCreep s.start.creepLimit x).2 = true then ((s.watched x).takeCauses [.creep]).settle
          else (s.watched x).settle)
      else { s with meas := { s.meas with stroke := x } } := by
  unfold State.countEdge
  dsimp only
  split
  · split <;> rfl
  · rfl

theorem State.countEdge_frame (s : State) (x : Int) :
    (s.countEdge x).now = s.now ∧ (s.countEdge x).start = s.start
      ∧ (s.countEdge x).meas = { s.meas with
          stroke := x, contact := (s.countEdge x).meas.contact, release := (s.countEdge x).meas.release
          unseat := (s.countEdge x).meas.unseat } := by
  rw [s.countEdge_eq x]
  split
  · split
    · obtain ⟨hnow, hstart, -⟩ := (s.watched x).takeCauses_frame [.creep] 0
      have hcaused := (s.watched x).takeCauses_meas [.creep] 0
      have hsettled := ((s.watched x).takeCauses [.creep]).settle_meas
      refine ⟨(State.settleFrom_now _ _).trans hnow, (State.settleFrom_start _ _).trans hstart, hsettled.trans ?_⟩
      rw [hcaused]
      rfl
    · exact ⟨State.settleFrom_now _ _, State.settleFrom_start _ _, (s.watched x).settle_meas⟩
  · exact ⟨rfl, rfl, rfl⟩

/-- Settles O23: a phase error, no count, or one count, which the stroke alone shows. -/
theorem encoderSampleCountsOneEdge : Obligations.EncoderSampleCountsOneEdge := by
  intro s m a b hrun
  have hexec := execEncoderEdge_eq m a b hrun
  have hcount := countStroke_encoderStep s.meas.stroke s.meas.encoderA s.meas.encoderB a b
  have hphase := encoderStep_phaseError_iff s.meas.encoderA s.meas.encoderB a b
  have hlevels := @levels_eq_of_no_change s.meas.encoderA s.meas.encoderB a b
  dsimp only at hexec hcount
  generalize encoderStep s.meas.encoderA s.meas.encoderB a b = step at hexec hcount hphase
  refine ⟨_, hexec, ?_⟩
  by_cases hstep : step = .phaseError
  · rw [if_pos hstep]
    have hboth := hphase.1 hstep
    have hhalts : HaltsAs s (s.sampled m a b) := ⟨rfl, rfl, rfl, id, rfl, rfl, rfl⟩
    obtain ⟨hnow, hstart, hpeers, hrequest, -⟩ := (s.sampled m a b).takeCauses_frame [.sensor] 0
    have hmeas := (s.sampled m a b).takeCauses_meas [.sensor] 0
    have htakes := hhalts.takesCauses (causes := [.sensor]) rfl 0
    have hidle : s.ctrl.state.isOperating = false → (s.sampled m a b).takeCauses [.sensor] = s.sampled m a b := by
      intro hop
      rw [State.takeCauses_eq 0 (causes := [.sensor]) (first := .sensor) (rest := []) rfl]
      exact if_pos hop
    generalize (s.sampled m a b).takeCauses [.sensor] = t at *
    rw [hstep] at hcount
    rw [hmeas, hnow, hstart, hpeers, hrequest]
    refine ⟨rfl, rfl, rfl, rfl, rfl, rfl, rfl, rfl, hcount, fun _ h => ?_, fun _ => ⟨htakes, rfl, rfl⟩, fun hop => ?_⟩
    · rw [hboth] at h
      cases h
    · rw [hidle hop]
      rfl
  rw [if_neg hstep]
  have hboth : ¬((a != s.meas.encoderA) && (b != s.meas.encoderB)) = true := fun h => hstep (hphase.2 h)
  by_cases hsame : countStroke s.meas.stroke step = s.meas.stroke
  · rw [if_pos hsame]
    refine ⟨rfl, rfl, rfl, rfl, rfl, rfl, rfl, rfl, hsame.symm.trans hcount, fun hone hnone => ?_, fun h => absurd h hboth,
      fun _ => rfl⟩
    obtain ⟨rfl, rfl⟩ := hlevels hone hnone
    rfl
  · rw [if_neg hsame]
    obtain ⟨hnow, hstart, hmeas⟩ := (s.sampled m a b).countEdge_frame (countStroke s.meas.stroke step)
    have hidle : s.ctrl.state.isOperating = false →
        (s.sampled m a b).countEdge (countStroke s.meas.stroke step)
          = { s.sampled m a b with meas := { (s.sampled m a b).meas with stroke := countStroke s.meas.stroke step } } := by
      intro hop
      rw [State.countEdge_eq]
      exact if_neg (by rw [show (s.sampled m a b).ctrl = s.ctrl from rfl, hop]; exact Bool.false_ne_true)
    have hcounted : ((a != s.meas.encoderA) != (b != s.meas.encoderB)) = false → countStroke s.meas.stroke step
        = s.meas.stroke := by
      intro hone
      rw [hcount, hone]
      rfl
    generalize (s.sampled m a b).countEdge (countStroke s.meas.stroke step) = t at *
    rw [hnow, hstart, hmeas]
    refine ⟨rfl, rfl, rfl, rfl, rfl, rfl, rfl, rfl, hcount, fun hone _ => absurd (hcounted hone) hsame,
      fun h => absurd h hboth, fun hop => ?_⟩
    rw [hidle hop]
    rfl

/-! ## The creep watch -/

/-- The stroke has departed from the reference of a brake that is not RELEASED, or gone back from the extreme of a RELEASED
one, by more than the limit (R154, R155). -/
def Drive.creeps (d : Drive) (limit x : Int) : Bool :=
  if d.brake = .released then
    match d.extreme, d.direction with
    | some e, .up => decide (x < e - limit)
    | some e, .down => decide (e + limit < x)
    | none, _ => false
  else decide (x < d.creepReference - limit ∨ d.creepReference + limit < x)

/-- The drive unit after a count that is no creep: the extreme of a RELEASED brake moves on with it (R155). -/
def Drive.extremeMoved (d : Drive) (x : Int) : Drive :=
  { d with extreme := if d.brake = .released then d.extreme.map (fun e => if d.direction = .up then max e x else min e x)
      else d.extreme }

theorem Drive.watchCreep_released {d : Drive} (limit x : Int) (hb : d.brake = .released) :
    (d.watchCreep limit x).2 = d.creeps limit x ∧ (d.creeps limit x = false → (d.watchCreep limit x).1 = d.extremeMoved x) := by
  obtain ⟨brake, releaseTimer, setDelay, copy, applied, direction, stall, reference, extreme⟩ := d
  obtain rfl : brake = .released := hb
  cases extreme with
  | none => exact ⟨rfl, fun _ => rfl⟩
  | some e =>
    unfold Drive.watchCreep Drive.creeps Drive.extremeMoved
    cases direction with
    | up =>
      have hback : limit < goneBack .up e x ↔ x < e - limit := by
        simp only [goneBack]
        omega
      by_cases h : x < e - limit <;> simp [hback, h, extendExtreme]
    | down =>
      have hback : limit < goneBack .down e x ↔ e + limit < x := by
        simp only [goneBack]
        omega
      by_cases h : e + limit < x <;> simp [hback, h, extendExtreme]

theorem Drive.watchCreep_held {d : Drive} (limit x : Int) (hb : d.brake ≠ .released) :
    (d.watchCreep limit x).2 = d.creeps limit x
      ∧ (d.watchCreep limit x).1 = if d.creeps limit x = true then { d with creepReference := x } else d := by
  have hwatch : d.watchCreep limit x
      = if limit < |x - d.creepReference| then ({ d with creepReference := x }, true) else (d, false) := by
    unfold Drive.watchCreep
    cases hd : d.brake with
    | released => exact absurd hd hb
    | set => rfl
    | releasing => rfl
  have hgone : limit < |x - d.creepReference| ↔ x < d.creepReference - limit ∨ d.creepReference + limit < x := by
    rw [lt_abs]
    omega
  rw [hwatch, Drive.creeps, if_neg hb]
  by_cases h : limit < |x - d.creepReference|
  · simp [h, hgone.1 h]
  · simp [h, mt hgone.2 h]

/-- The creep watch of one count, by its verdict. -/
theorem Drive.watchCreep_verdict (d : Drive) (limit x : Int) :
    (d.watchCreep limit x).2 = d.creeps limit x
      ∧ (d.creeps limit x = false → (d.watchCreep limit x).1 = d.extremeMoved x)
      ∧ (d.creeps limit x = true → d.brake ≠ .released → (d.watchCreep limit x).1.creepReference = x) := by
  by_cases hb : d.brake = .released
  · obtain ⟨hverdict, hmoved⟩ := Drive.watchCreep_released limit x hb
    exact ⟨hverdict, hmoved, fun _ hne => absurd hb hne⟩
  · obtain ⟨hverdict, hheld⟩ := Drive.watchCreep_held limit x hb
    refine ⟨hverdict, fun hno => ?_, fun hyes _ => ?_⟩
    · rw [hheld, hno, Drive.extremeMoved, if_neg hb]
      rfl
    · rw [hheld, hyes]
      rfl

/-- The cause of a creep sets the brake with its reference at the stroke, and leaves in HALTED what stands. -/
theorem State.takeCauses_creep {y : State} (hop : y.ctrl.state.isOperating = true)
    (hhalted : y.ctrl.state = .halted → y.drive.creepReference = y.meas.stroke) :
    (y.takeCauses [.creep]).drive.creepReference = y.meas.stroke := by
  rw [State.takeCauses_eq 0 (causes := [.creep]) (first := .creep) (rest := []) rfl, if_neg (by simp [hop])]
  by_cases hst : y.ctrl.state = .halted
  · rw [if_pos hst]
    exact hhalted hst
  · rw [if_neg hst, State.enterHalted_drive (h := hst)]

/-- Settles O24: the creep watch's verdict, its cause taken first, and the judgement of the new lift. -/
theorem creepIsJudgedAtEachCount : Obligations.CreepIsJudgedAtEachCount := by
  intro s m a b o x hrun hop hconfig hbrake _hhalt hx hcounted
  have hexec := execEncoderEdge_eq m a b hrun
  dsimp only at hexec
  rw [← hx, if_neg hcounted, if_neg] at hexec
  swap
  · intro hphase
    rw [hphase] at hx
    exact hcounted hx
  have hstroke : ((s.sampled m a b).countEdge x).meas.stroke = x := by
    rw [((s.sampled m a b).countEdge_frame x).2.2]
  have hlimit : (s.sampled m a b).start.creepLimit = o.creepLimit := by
    rw [StartUnit.creepLimit, show (s.sampled m a b).start.config = some o from hconfig]
    rfl
  obtain ⟨hverdict, hmoved, hreference⟩ := (s.sampled m a b).drive.watchCreep_verdict (s.sampled m a b).start.creepLimit x
  refine ⟨_, hexec, hstroke, ?_⟩
  intro gone
  have hgone : (s.sampled m a b).drive.creeps (s.sampled m a b).start.creepLimit x = gone := by
    rw [hlimit]
    rfl
  rw [hgone] at hverdict hmoved hreference
  rw [State.countEdge_eq, if_pos (show (s.sampled m a b).ctrl.state.isOperating = true from hop), hverdict]
  generalize hy : (s.sampled m a b).watched x = y
  obtain ⟨hspec, -⟩ := (s.sampled m a b).drive.watchCreep_spec (s.sampled m a b).start.creepLimit x
  refine ⟨fun hcreeps => ?_, fun hno => ?_⟩
  · rw [if_pos hcreeps]
    have hhalts : HaltsAs s y := by rw [← hy]; exact ⟨rfl, rfl, rfl, id, rfl, rfl, rfl⟩
    have htakes := hhalts.takesCauses (causes := [.creep]) rfl 0
    have hrest := State.takeCauses_resting (s := y) (causes := [.creep]) (by simp) 0
    obtain ⟨-, -, hpeers, hrequest, -⟩ := y.takeCauses_frame [.creep] 0
    have horigin : y.originOf .creep 0 = s.ownNumber := by rw [← hy]; rfl
    rw [horigin] at htakes
    have hcreep : (y.takeCauses [.creep]).drive.creepReference = x := by
      have := State.takeCauses_creep (y := y) (by rw [← hy]; exact hop) fun hst => by
        rw [← hy] at hst ⊢
        refine hreference hcreeps fun hreleased => ?_
        have hset := hbrake.2.1 (show s.ctrl.state.isResting = true by rw [show s.ctrl.state = .halted from hst]; rfl)
        cases hset.symm.trans hreleased
      rw [this, ← hy]
      rfl
    have hsettled := State.settle_of_resting hrest
    refine ⟨htakes.settle hrest, ?_, ?_, ?_⟩
    all_goals rw [hsettled]
    · exact hcreep
    · exact hpeers.trans (by rw [← hy]; rfl)
    · exact hrequest.trans (by rw [← hy]; rfl)
  · rw [if_neg (by rw [hno]; exact Bool.false_ne_true)]
    have hdrive : y.drive = s.drive.extremeMoved x := by rw [← hy]; exact hmoved hno
    have hstate : y.ctrl.state = s.ctrl.state := by rw [← hy]; rfl
    have hhands : HandsFrom s y := by
      refine ⟨?_, ?_, by rw [hdrive]; rfl, ?_, ?_, ?_, .inl hstate⟩
      all_goals rw [← hy]; rfl
    obtain ⟨hcauses, hfirst, -⟩ := y.settleFrom_halt s.ctrl.state
    have hsettles := y.settlesFrom_settleFrom s.ctrl.state
    have hdriven := y.settleFrom_drive s.ctrl.state
    have hrests := y.settleFrom_state s.ctrl.state
    have hhalted := fun h => State.settle_halted (s := y) (hstate.trans h)
    rw [State.settle, hstate] at hhalted ⊢
    have hkept : (y.settleFrom s.ctrl.state).ctrl.state = s.ctrl.state →
        (y.settleFrom s.ctrl.state).drive = s.drive.extremeMoved x := fun h => by
      rw [hdriven, if_pos (hrests.symm.trans h), hdrive]
    refine ⟨hcauses.trans (by rw [← hy]; rfl), hfirst.trans (by rw [← hy]; rfl), ?_, hhands.handsOn, hkept, fun hst => ?_⟩
    · have hlast := hsettles
      rw [← hy] at hlast ⊢
      exact hlast
    · have hstays : (y.settleFrom s.ctrl.state).ctrl.state = .halted := by rw [hhalted hst]; exact hstate.trans hst
      exact ⟨hstays, by rw [hkept (hstays.trans hst.symm)]; rfl⟩

end Sys2Proof.Machine
end

section
/-! The converter read: a good sample with its causes, its confirmations and the jog clamp, or a miss. -/

namespace Sys2Proof.Machine

/-! ## The tests of a good sample -/

theorem StartUnit.atContact_eq (u : StartUnit) (load : Nat) :
    u.atContact load = u.config.any (fun o => decide (o.contactThreshold ≤ load)) := by
  unfold StartUnit.atContact
  cases u.config <;> rfl

theorem StartUnit.belowRelease_eq (u : StartUnit) (load : Nat) :
    u.belowRelease load = u.config.any (fun o => decide (load < o.releaseThreshold)) := by
  unfold StartUnit.belowRelease
  cases u.config <;> rfl

theorem StartUnit.below_contactThreshold_iff (u : StartUnit) (load : Nat) :
    (u.config.any (fun o => decide (load < o.contactThreshold)) = true ↔ u.config.isSome = true ∧ u.atContact load = false) := by
  rw [StartUnit.atContact_eq]
  cases u.config <;> simp

theorem StartUnit.config_of_atContact {u : StartUnit} {load : Nat} (h : u.atContact load = true) : u.config.isSome = true := by
  rw [StartUnit.atContact_eq] at h
  cases hc : u.config with
  | none => simp [hc] at h
  | some o => rfl

/-- The unseat test, the lift with its clamp (R46). -/
theorem State.unseatTest_eq (s : State) (load : Nat) :
    s.unseatTest load = s.start.config.any (fun o => s.ctrl.contact.any (fun x =>
      decide ((o.unseatLift : Int) ≤ max 0 (min 200000 (s.meas.latchedStroke - x)) ∧ load < o.releaseThreshold))) := by
  unfold State.unseatTest
  cases s.start.config with
  | none => rfl
  | some o =>
    cases s.ctrl.contact with
    | none => rfl
    | some x =>
      have hlift : o.unseatLift ≤ clampLift (s.meas.latchedStroke - x)
          ↔ (o.unseatLift : Int) ≤ max 0 (min 200000 (s.meas.latchedStroke - x)) := by
        unfold clampLift
        omega
      simp [hlift, Bool.decide_and]

/-- A counter reaches 0 at the good sample that completes it (R43, R44, R46). -/
theorem Counter.step_done_iff (c : Counter) (holds : Bool) :
    (c.step holds).done = true ↔ c.running = true ∧ holds = true ∧ c.value ≤ 1 := by
  unfold Counter.step Counter.done
  cases hr : c.running <;> cases holds <;> simp [hr]
  omega

theorem Measurement.overloadAfter_eq (m : Measurement) (limit load : Nat) :
    m.overloadAfter limit load = (decide (limit ≤ load) && (m.overload || decide (2 ≤ m.overloadCount))) := by
  have hthird : (min (m.overloadCount + 1) 3 == 3) = decide (2 ≤ m.overloadCount) := by
    rw [Bool.eq_iff_iff, beq_iff_eq, decide_eq_true_eq]
    omega
  unfold Measurement.overloadAfter Measurement.overloadStep
  by_cases h : limit ≤ load
  · rw [if_pos h, hthird]
  · simp [h]

/-- The causes of a good sample (R45, R46, R50). -/
theorem State.sampleCauses_eq (s : State) (load : Nat) (overloads unseats : Prop) [Decidable overloads] [Decidable unseats]
    (hover : overloads ↔ s.start.overloadLimitInForce ≤ load ∧ s.meas.overload = false ∧ 2 ≤ s.meas.overloadCount)
    (hunseat : unseats ↔ (s.meas.unseat.step (s.unseatTest load)).done = true) :
    s.sampleCauses load = (if overloads then [.overload] else []) ++ (if unseats then [.unseat] else []) := by
  have honset : (s.meas.overloadAfter s.start.overloadLimitInForce load && !s.meas.overload) = true ↔ overloads := by
    rw [Measurement.overloadAfter_eq, hover]
    cases s.meas.overload <;> simp
  unfold State.sampleCauses
  simp only [honset, hunseat]

theorem sortReply_eq (reply : BitVec 16) :
    sortReply reply = if reply.getLsbD 15 = false ∧ reply.getLsbD 14 = true then .good (reply.toNat / 4 % 4096) else .miss := by
  have hraw : (reply.extractLsb' 2 12).toNat = reply.toNat / 4 % 4096 := by
    rw [BitVec.extractLsb'_toNat, Nat.shiftRight_eq_div_pow]
  rw [sortReply, hraw]

/-! ## A good sample, part by part -/

/-- The part with the measurement unit of a good sample. -/
def State.measured (s : State) (load : Nat) : State := { s with meas := s.goodSample load }

theorem State.confirm_of_resting {s : State} (h : s.ctrl.state.isResting = true) : s.confirm = s := by
  unfold State.confirm
  rw [if_neg, if_neg]
  all_goals rintro ⟨hst, -⟩; rw [hst] at h; cases h

theorem State.jogClampAtOnce_of_ne {s : State} (h : s.ctrl.state ≠ .jog) (before : Nat) : s.jogClampAtOnce before = s :=
  if_neg fun hc => h hc.1

/-- A good sample that raises causes: HALTED overtakes its confirmations (log entry 9). -/
theorem State.takeSample_caused {s : State} {raw : Nat}
    (h : s.sampleCauses (scaleLoad s.start.zeroInForce s.start.fullScaleInForce raw) ≠ []) :
    s.takeSample raw = (s.measured (scaleLoad s.start.zeroInForce s.start.fullScaleInForce raw)).takeCauses
      (s.sampleCauses (scaleLoad s.start.zeroInForce s.start.fullScaleInForce raw)) := by
  have hrest := State.takeCauses_resting
    (s := s.measured (scaleLoad s.start.zeroInForce s.start.fullScaleInForce raw)) h 0
  show ((State.takeCauses (s.measured _) _).confirm).jogClampAtOnce _ = _
  rw [State.confirm_of_resting hrest, State.jogClampAtOnce_of_ne]
  intro hjog
  rw [hjog] at hrest
  cases hrest

theorem State.takeSample_quiet {s : State} {raw : Nat}
    (h : s.sampleCauses (scaleLoad s.start.zeroInForce s.start.fullScaleInForce raw) = []) :
    s.takeSample raw = (s.measured (scaleLoad s.start.zeroInForce s.start.fullScaleInForce raw)).confirm.jogClampAtOnce
      s.meas.load := by
  show ((State.takeCauses (s.measured _) _).confirm).jogClampAtOnce _ = _
  rw [h, State.takeCauses_nil]

/-- What the confirmations and the jog clamp leave. -/
structure SampleKeeps (x t : State) : Prop where
  now_eq : t.now = x.now
  start_eq : t.start = x.start
  meas_eq : t.meas = { x.meas with contact := t.meas.contact, release := t.meas.release, unseat := t.meas.unseat }
  causes_eq : t.halt.causes = x.halt.causes
  first_eq : t.halt.first = x.halt.first

theorem SampleKeeps.refl (x : State) : SampleKeeps x x := ⟨rfl, rfl, rfl, rfl, rfl⟩

theorem SampleKeeps.settleFrom {s x : State} (h : SampleKeeps s x) (old : StationState) : SampleKeeps s (x.settleFrom old) := by
  obtain ⟨hnow, hstart, hmeas, hcauses, hfirst⟩ := h
  obtain ⟨hcauses', hfirst', -⟩ := x.settleFrom_halt old
  refine ⟨(x.settleFrom_now old).trans hnow, (x.settleFrom_start old).trans hstart, ?_, hcauses'.trans hcauses,
    hfirst'.trans hfirst⟩
  rw [x.settleFrom_meas old]
  split
  · exact hmeas
  · rw [hmeas]
    rfl

/-- Release confirmed: the record is discarded, and READY is entered, tested. -/
theorem State.releaseConfirmed_eq (x : State) : x.releaseConfirmed
    = State.settleFrom { x with ctrl := { x.ctrl with contact := none, state := .ready } } .unseating :=
  State.enterReady_settleFrom { x with ctrl := { x.ctrl with contact := none } } .unseating

theorem SampleKeeps.entered (x : State) (c : Controller) (old : StationState) :
    SampleKeeps x (State.settleFrom { x with ctrl := c } old) :=
  have h : SampleKeeps x { x with ctrl := c } := ⟨rfl, rfl, rfl, rfl, rfl⟩
  h.settleFrom old

theorem SampleKeeps.confirm (x : State) : SampleKeeps x x.confirm := by
  unfold State.confirm
  split
  · exact SampleKeeps.entered x _ _
  · split
    · rw [State.releaseConfirmed_eq]
      exact SampleKeeps.entered x _ _
    · exact SampleKeeps.refl x

theorem SampleKeeps.jogClampAtOnce {s x : State} (h : SampleKeeps s x) (before : Nat) :
    SampleKeeps s (x.jogClampAtOnce before) := by
  unfold State.jogClampAtOnce
  split
  · exact ⟨h.now_eq, h.start_eq, h.meas_eq, h.causes_eq, h.first_eq⟩
  · exact h

theorem State.jogClampAtOnce_meas (x : State) (before : Nat) : (x.jogClampAtOnce before).meas = x.meas := by
  unfold State.jogClampAtOnce
  split <;> rfl

/-- The measurement unit of a good sample that does not complete the unseat counter (R40, R42 to R46). -/
theorem State.goodSample_eq {s : State} {load : Nat} (h : (s.meas.unseat.step (s.unseatTest load)).done = false) :
    s.goodSample load = { s.meas with
      load := load, missCount := 0, silent := false
      contact := s.meas.contact.step (s.start.config.any (fun o => decide (o.contactThreshold ≤ load)))
      release := s.meas.release.step (s.start.config.any (fun o => decide (load < o.releaseThreshold)))
      unseat := s.meas.unseat.step (s.unseatTest load)
      overloadCount := s.meas.overloadStep s.start.overloadLimitInForce load
      overload := s.meas.overloadAfter s.start.overloadLimitInForce load } := by
  rw [← StartUnit.atContact_eq, ← StartUnit.belowRelease_eq, State.goodSample, h]
  rfl

/-- Where nothing is confirmed, the jog clamp alone can follow. -/
theorem State.confirm_of_none {x : State} (hcontact : x.ctrl.state = .seating → x.meas.contact.done = false)
    (hrelease : x.ctrl.state = .unseating → x.meas.release.done = false) : x.confirm = x := by
  unfold State.confirm
  rw [if_neg, if_neg]
  · rintro ⟨hst, hdone⟩
    rw [hrelease hst] at hdone
    cases hdone
  · rintro ⟨hst, hdone⟩
    rw [hcontact hst] at hdone
    cases hdone

/-- The jog clamp between expiries (R94). -/
theorem State.jogClampAtOnce_spec {x : State} {before : Nat} (hst : x.ctrl.state = .jog) (hdir : x.ctrl.jogDirection = .up)
    (hbefore : x.start.atContact before = false) (hload : x.start.atContact x.meas.load = true) :
    let t := x.jogClampAtOnce before
    t = { x with engine := { x.engine with commanded := 0 }, drive := t.drive }
      ∧ t.drive.applied = 0 ∧ t.drive.commandedCopy = 0 ∧ t.drive.brake = x.drive.brake := by
  obtain ⟨hcopy, -, hbrake, -⟩ := x.drive.handOver_spec x.start.dMin x.meas.stroke 0 x.engine.direction
  obtain ⟨happlied, -⟩ := x.drive.handOver_zero x.start.dMin x.meas.stroke x.engine.direction
  unfold State.jogClampAtOnce
  rw [if_pos ⟨hst, hdir, hbefore, hload⟩]
  exact ⟨rfl, happlied, hcopy, hbrake⟩

/-! ## The counters through an event of causes -/

/-- A stopped counter keeps its value. -/
theorem State.takeCauses_counters (s : State) (causes : List Cause) (origin : Nat) :
    (s.takeCauses causes origin).meas.contact.value = s.meas.contact.value
      ∧ (s.takeCauses causes origin).meas.release.value = s.meas.release.value
      ∧ (s.takeCauses causes origin).meas.unseat.value = s.meas.unseat.value := by
  by_cases hne : causes = []
  · rw [hne, State.takeCauses_nil]
    exact ⟨rfl, rfl, rfl⟩
  · obtain ⟨first, rest, hinsert, -⟩ := Cause.insertAll_ne_nil hne
    rw [State.takeCauses_eq origin hinsert]
    split
    · exact ⟨rfl, rfl, rfl⟩
    · split
      · exact ⟨rfl, rfl, rfl⟩
      · next hst =>
        rw [State.enterHalted_meas _ _ hst]
        exact ⟨rfl, rfl, rfl⟩

/-! ## The read's end -/

/-- The part at the end of a converter read, before its outcome is judged (R39). -/
def State.readEnded (s : State) (due : Time) : State :=
  { s.tick due with meas := { s.meas with converterRead := none } }

theorem execConverterReadEnd_eq {s : State} {due : Time} (reply : BitVec 16) (hrun : s.start.resetHeld = false)
    (hdue : s.meas.converterRead = some due) :
    execConverterReadEnd reply s = .next (if reply.getLsbD 15 = false ∧ reply.getLsbD 14 = true
      then (s.readEnded due).takeSample (reply.toNat / 4 % 4096) else (s.readEnded due).takeMiss) := by
  rw [execConverterReadEnd, State.onTimer_eq hrun hdue, sortReply_eq]
  by_cases hgood : reply.getLsbD 15 = false ∧ reply.getLsbD 14 = true
  · rw [if_pos hgood, if_pos hgood]
    rfl
  · rw [if_neg hgood, if_neg hgood]
    rfl

/-- With no read in progress the select line is released and the clock line still (R38). -/
theorem Measurement.lines_idle {m : Measurement} (h : m.converterRead = none) (x : Time) :
    m.selectLine x = false ∧ m.clockPeriod x = none := by
  unfold Measurement.selectLine Measurement.clockPeriod
  rw [h]
  exact ⟨rfl, rfl⟩

/-- What a good sample leaves, whatever it raises or confirms. -/
theorem State.takeSample_frame (x : State) (raw : Nat) :
    let t := x.takeSample raw
    t.now = x.now ∧ t.start = x.start
      ∧ t.meas = { x.goodSample (scaleLoad x.start.zeroInForce x.start.fullScaleInForce raw) with
          contact := t.meas.contact, release := t.meas.release, unseat := t.meas.unseat } := by
  by_cases h : x.sampleCauses (scaleLoad x.start.zeroInForce x.start.fullScaleInForce raw) = []
  · rw [State.takeSample_quiet h]
    obtain ⟨hnow, hstart, hmeas, -⟩ := (SampleKeeps.confirm
      (x.measured (scaleLoad x.start.zeroInForce x.start.fullScaleInForce raw))).jogClampAtOnce x.meas.load
    exact ⟨hnow, hstart, hmeas⟩
  · rw [State.takeSample_caused h]
    obtain ⟨hnow, hstart, -⟩ := (x.measured _).takeCauses_frame
      (x.sampleCauses (scaleLoad x.start.zeroInForce x.start.fullScaleInForce raw)) 0
    exact ⟨hnow, hstart, (x.measured _).takeCauses_meas _ _⟩

theorem State.takeMiss_eq (x : State) :
    x.takeMiss = if (x.meas.miss.silent && !x.meas.silent) = true then State.takeCauses { x with meas := x.meas.miss } [.sensor]
      else { x with meas := x.meas.miss } := rfl

/-- What a miss leaves, whether or not it raises SENSOR (R41, R42). -/
theorem State.takeMiss_frame (x : State) :
    let t := x.takeMiss
    t.now = x.now ∧ t.start = x.start
      ∧ t.meas = { x.meas.miss with contact := t.meas.contact, release := t.meas.release, unseat := t.meas.unseat }
      ∧ t.meas.contact.value = x.meas.miss.contact.value ∧ t.meas.release.value = x.meas.miss.release.value
      ∧ t.meas.unseat.value = x.meas.miss.unseat.value := by
  have heq := x.takeMiss_eq
  generalize hy : ({ x with meas := x.meas.miss } : State) = y at heq
  have hymeas : y.meas = x.meas.miss := by rw [← hy]
  have hynow : y.now = x.now := by rw [← hy]
  have hystart : y.start = x.start := by rw [← hy]
  obtain ⟨hnow, hstart, -⟩ := y.takeCauses_frame [.sensor] 0
  have hmeas := y.takeCauses_meas [.sensor] 0
  have hcounters := y.takeCauses_counters [.sensor] 0
  dsimp only
  rw [heq, ← hynow, ← hystart, ← hymeas]
  split
  · exact ⟨hnow, hstart, hmeas, hcounters⟩
  · exact ⟨rfl, rfl, rfl, rfl, rfl, rfl⟩

/-- The miss that makes the converter silent raises SENSOR (R41). -/
theorem State.takeMiss_raises (s : State) (due : Time)
    (h : ((s.readEnded due).meas.miss.silent && !s.meas.silent) = true) :
    TakesCauses s (s.readEnded due).takeMiss [.sensor] .sensor s.ownNumber
      ∧ (s.readEnded due).takeMiss.peers = s.peers ∧ (s.readEnded due).takeMiss.request = s.request := by
  rw [State.takeMiss_eq, show (s.readEnded due).meas.silent = s.meas.silent from rfl, if_pos h]
  generalize hy : ({ s.readEnded due with meas := (s.readEnded due).meas.miss } : State) = y
  have hhalts : HaltsAs s y := by rw [← hy]; exact ⟨rfl, rfl, rfl, id, rfl, rfl, rfl⟩
  have htakes := hhalts.takesCauses (causes := [.sensor]) rfl 0
  have horigin : y.originOf .sensor 0 = s.ownNumber := by rw [← hy]; rfl
  obtain ⟨-, -, hpeers, hrequest, -⟩ := y.takeCauses_frame [.sensor] 0
  exact ⟨horigin ▸ htakes, hpeers.trans (by rw [← hy]; rfl), hrequest.trans (by rw [← hy]; rfl)⟩

theorem State.takeMiss_quiet (s : State) (due : Time)
    (h : ((s.readEnded due).meas.miss.silent && !s.meas.silent) = false) :
    (s.readEnded due).takeMiss = { s.readEnded due with meas := (s.readEnded due).meas.miss } := by
  rw [State.takeMiss_eq]
  exact if_neg (Bool.eq_false_iff.1 h)

theorem Counter.restart_value {c : Counter} (h : c.running = true) : c.restart.value = 5 := by
  rw [Counter.restart, if_pos h]

/-- Settles O26: the outcome of the read, its causes as one event, and the jog clamp where nothing is confirmed. -/
theorem converterReadIsSampleOrMiss : Obligations.ConverterReadIsSampleOrMiss := by
  intro s due reply hrun hdue
  have hexec := execConverterReadEnd_eq reply hrun hdue
  by_cases hgood : reply.getLsbD 15 = false ∧ reply.getLsbD 14 = true
  · rw [if_pos hgood] at hexec
    obtain ⟨hnow, hstart, hmeas⟩ := (s.readEnded due).takeSample_frame (reply.toNat / 4 % 4096)
    have hquiet := State.takeSample_quiet (s := s.readEnded due) (raw := reply.toNat / 4 % 4096)
    have hraised := State.takeSample_caused (s := s.readEnded due) (raw := reply.toNat / 4 % 4096)
    generalize (s.readEnded due).takeSample (reply.toNat / 4 % 4096) = t at *
    have hread : t.meas.converterRead = none := by rw [hmeas]; rfl
    refine ⟨t, hexec, hnow, hread, Measurement.lines_idle hread, by rw [hmeas]; rfl, by rw [hmeas]; rfl, hstart, ?_⟩
    intro good raw start fullScale limit load atContact belowRelease comesAway stepped overloads unseats confirms reaches
    refine ⟨fun _ => ?_, fun h => absurd hgood h⟩
    classical
    have hunseat : unseats ↔ ((s.readEnded due).meas.unseat.step ((s.readEnded due).unseatTest load)).done = true := by
      rw [Counter.step_done_iff, State.unseatTest_eq]
      exact Iff.rfl
    have hcauses : (s.readEnded due).sampleCauses load
        = (if overloads then [.overload] else []) ++ (if unseats then [.unseat] else []) :=
      State.sampleCauses_eq (s.readEnded due) load overloads unseats Iff.rfl hunseat
    change (s.readEnded due).sampleCauses load ≠ [] →
      t = ((s.readEnded due).measured load).takeCauses ((s.readEnded due).sampleCauses load) at hraised
    change (s.readEnded due).sampleCauses load = [] →
      t = ((s.readEnded due).measured load).confirm.jogClampAtOnce s.meas.load at hquiet
    change t.meas = { (s.readEnded due).goodSample load with
      contact := t.meas.contact, release := t.meas.release, unseat := t.meas.unseat } at hmeas
    rw [hcauses] at hraised hquiet
    generalize hy : (s.readEnded due).measured load = y at *
    have hhalts : HaltsAs s y := by rw [← hy]; exact ⟨rfl, rfl, rfl, id, rfl, rfl, rfl⟩
    have horigin (c : Cause) (hc : c ≠ .peerHalted) : y.originOf c 0 = s.ownNumber := by
      rw [← hy]
      exact if_neg hc
    have hover : t.meas.overload = (decide (limit ≤ load) && (s.meas.overload || decide (2 ≤ s.meas.overloadCount))) := by
      rw [hmeas]
      exact Measurement.overloadAfter_eq _ _ _
    have hne : overloads ∨ unseats →
        (if overloads then [Cause.overload] else []) ++ (if unseats then [.unseat] else []) ≠ [] := by
      rintro (h | h) <;> simp [h]
    refine ⟨by rw [hmeas]; rfl, by rw [hmeas]; rfl, by rw [hmeas]; rfl, by rw [hmeas]; rfl, hover, fun h => ?_,
      fun ⟨h, h'⟩ => ?_, fun ⟨h, h'⟩ => ?_, fun ⟨h, h'⟩ => ?_, fun h => ?_, fun ⟨h, h'⟩ => ?_⟩
    · rw [hraised (hne h), (y.takeCauses_frame _ 0).2.2.1, (y.takeCauses_frame _ 0).2.2.2.1, ← hy]
      exact ⟨rfl, rfl⟩
    · rw [hraised (hne (.inl h)), if_pos h, if_neg h']
      exact horigin .overload (by simp) ▸ hhalts.takesCauses rfl 0
    · rw [hraised (hne (.inr h')), if_neg h, if_pos h']
      exact horigin .unseat (by simp) ▸ hhalts.takesCauses rfl 0
    · rw [hraised (hne (.inl h)), if_pos h, if_pos h']
      exact horigin .overload (by simp) ▸ hhalts.takesCauses rfl 0
    · rw [hraised (hne (.inr h)), (y.takeCauses_counters _ 0).2.2, ← hy]
      exact congrArg Counter.value (if_pos (hunseat.1 h))
    · have ht := hquiet (by rw [if_neg h, if_neg h']; rfl)
      obtain ⟨-, -, -, hcausesKept, hfirstKept⟩ := (SampleKeeps.confirm y).jogClampAtOnce s.meas.load
      refine ⟨by rw [ht, hcausesKept, ← hy]; rfl, by rw [ht, hfirstKept, ← hy]; rfl, fun hno => ?_⟩
      have hstays : y.confirm = y := by
        rw [← hy]
        refine State.confirm_of_none (fun hst => Bool.eq_false_iff.2 fun hdone => hno (.inl ?_))
          (fun hst => Bool.eq_false_iff.2 fun hdone => hno (.inr ?_))
        · obtain ⟨hruns, hholds, hlast⟩ := (Counter.step_done_iff _ _).1 hdone
          exact ⟨hst, hruns, hlast, (StartUnit.atContact_eq _ _).symm.trans hholds⟩
        · obtain ⟨hruns, hholds, hlast⟩ := (Counter.step_done_iff _ _).1 hdone
          exact ⟨hst, hruns, hlast, (StartUnit.belowRelease_eq _ _).symm.trans hholds⟩
      rw [hstays] at ht
      have hsame : t.meas = (s.readEnded due).goodSample load := by
        rw [ht, State.jogClampAtOnce_meas, ← hy]
        rfl
      have hsampled := State.goodSample_eq (s := s.readEnded due) (load := load)
        (Bool.eq_false_iff.2 fun hdone => h' (hunseat.2 hdone))
      rw [State.unseatTest_eq] at hsampled
      have hystands : y = { s with now := t.now, meas := t.meas } := by
        rw [hsame, hnow, ← hy]
        rfl
      refine ⟨?_, fun hreaches => ?_, fun hreaches => ?_⟩
      · rw [hsame, hsampled]
        rfl
      · obtain ⟨hjog, hup, hcontact, hbelow⟩ := hreaches
        obtain ⟨-, hbefore⟩ := (StartUnit.below_contactThreshold_iff _ _).1 hbelow
        have hspec := State.jogClampAtOnce_spec (x := y) (before := s.meas.load) (by rw [← hy]; exact hjog)
          (by rw [← hy]; exact hup) (by rw [← hy]; exact hbefore)
          (by rw [← hy]; exact (StartUnit.atContact_eq _ _).trans hcontact)
        dsimp only at hspec
        rw [← ht] at hspec
        obtain ⟨heq, happlied, hcopy, hbrake⟩ := hspec
        refine ⟨heq.trans ?_, happlied, hcopy, hbrake.trans (by rw [← hy]; rfl)⟩
        rw [hsame, hnow, ← hy]
        rfl
      · have hnone : y.jogClampAtOnce s.meas.load = y := by
          rw [← hy]
          refine if_neg fun ⟨hjog, hup, hbefore, hcontact⟩ => hreaches ⟨hjog, hup, ?_, ?_⟩
          · exact (StartUnit.atContact_eq _ _).symm.trans hcontact
          · refine (StartUnit.below_contactThreshold_iff _ _).2 ⟨?_, hbefore⟩
            exact StartUnit.config_of_atContact hcontact
        rw [hnone] at ht
        exact ht.trans hystands
  · rw [if_neg hgood] at hexec
    obtain ⟨hnow, hstart, hmeas, hcontact, hrelease, hunseat⟩ := (s.readEnded due).takeMiss_frame
    have hcaused := s.takeMiss_raises due
    have hquiet := s.takeMiss_quiet due
    generalize (s.readEnded due).takeMiss = t at *
    have hread : t.meas.converterRead = none := by rw [hmeas]; rfl
    have hsilent : t.meas.silent = (s.readEnded due).meas.miss.silent := by rw [hmeas]
    refine ⟨t, hexec, hnow, hread, Measurement.lines_idle hread, by rw [hmeas]; rfl, by rw [hmeas]; rfl, hstart, ?_⟩
    refine ⟨fun h => absurd h hgood, fun _ => ⟨by rw [hmeas]; rfl, by rw [hmeas]; rfl, ?_, by rw [hmeas]; rfl,
      by rw [hmeas]; rfl, fun h => ?_, fun h => ?_, fun h => ?_, fun hs hno => ?_, fun h => ?_⟩⟩
    · rw [hsilent]
      exact decide_eq_decide.2 (Nat.succ_le_succ_iff (a := 4))
    · exact hcontact.trans (Counter.restart_value h)
    · exact hrelease.trans (Counter.restart_value h)
    · exact hunseat.trans (Counter.restart_value h)
    · exact hcaused (by rw [← hsilent, hs, hno]; rfl)
    · have := hquiet (by rw [← hsilent]; rcases h with h | h <;> simp [h])
      rw [this]
      rfl

end Sys2Proof.Machine
end

section
/-! The confirmations of contact and release: the contact record set or discarded, and the station led on by the tables. -/

namespace Sys2Proof.Machine

/-- A change of state from outside the seated states is handed on the same whatever the confirmation counters have counted. -/
theorem HandsOn.withMeas {s t : State} {now : Time} {m : Measurement} (h : HandsOn { s with now := now, meas := m } t)
    (hne : t.ctrl.state ≠ s.ctrl.state) (hseated : s.ctrl.state.isSeated = false) : HandsOn s t := by
  obtain ⟨hengine, hbrake, hcontact, hrelease, hunseat⟩ := h.2 hne
  refine ⟨fun he => absurd he hne, fun _ => ⟨hengine, hbrake, hcontact, hrelease, ?_⟩⟩
  have hseated' : ({ s with now := now, meas := m } : State).ctrl.state.isSeated = false := hseated
  rw [hseated'] at hunseat
  rw [hseated]
  exact hunseat

/-- The tables read of the measurement unit the stroke alone. -/
theorem SettlesFrom.withMeas {s x t : State} (h : SettlesFrom x t) (hctrl : s.ctrl = x.ctrl)
    (hstroke : s.meas.stroke = x.meas.stroke) (hstart : s.start = x.start) (hpeers : s.peers = x.peers)
    (hrequest : s.request = x.request) : SettlesFrom s t := by
  have hcommand : s.command = x.command := by rw [State.command, State.command, hrequest]
  have hholds : s.assemblyHolds = x.assemblyHolds := by simp only [State.assemblyHolds, hpeers, hstart]
  have hgroup : s.groupAssembled = x.groupAssembled := by
    unfold State.groupAssembled State.eligibleCount
    rw [hpeers, hstart]
  have hpoised : s.membersPoised = x.membersPoised := by simp only [State.membersPoised, hpeers]
  have hlanded : s.membersLanded = x.membersLanded := by
    simp only [State.membersLanded, State.ownLift, State.unclampedLift, hpeers, hctrl, hstroke]
  have hloses : s.losesAssembly = x.losesAssembly := by simp only [State.losesAssembly, hholds, hcommand, hctrl]
  have hcompletes : s.completesAssembly = x.completesAssembly := by
    simp only [State.completesAssembly, hgroup, hloses, hctrl]
  have hrests : s.restsIn = x.restsIn := by
    simp only [State.restsIn, hctrl, hcommand, hpoised, hlanded, hcompletes, hloses]
  rw [SettlesFrom, hcompletes, hloses, hrests, hcommand, hctrl, hstart, hpeers, hrequest]
  exact h

/-- HOLDING, or where the group command leads from it. -/
theorem State.restsIn_of_holding {s : State} (h : s.ctrl.state = .holding) :
    s.restsIn = s.command.leadsTo s.membersPoised s.membersLanded := by
  unfold State.restsIn
  rw [h]

theorem GroupCommand.leadsTo_ne_seating (c : GroupCommand) (poised landed : Bool) : c.leadsTo poised landed ≠ .seating := by
  unfold GroupCommand.leadsTo
  cases c with
  | raise => cases poised <;> simp
  | lower => cases poised <;> cases landed <;> simp
  | conflict => simp
  | none => simp

/-- No transition leads from READY to UNSEATING. -/
theorem State.restsIn_of_ready_ne {s : State} (h : s.ctrl.state = .ready) : s.restsIn ≠ .unseating := by
  unfold State.restsIn
  rw [h]
  dsimp only
  split <;> split <;> simp

theorem State.settleFrom_peers_of_kept {s : State} (old : StationState) (hcompletes : s.completesAssembly = false)
    (hloses : s.losesAssembly = false) : (s.settleFrom old).peers = s.peers := by
  rw [State.settleFrom_peers, State.rested_of_kept hcompletes hloses]
  rfl

/-- The flag stands where no assembly is completed or lost. -/
theorem SettlesFrom.assembled_kept {s t : State} (h : SettlesFrom s t) (hloses : s.losesAssembly = false)
    (hst : s.ctrl.state ≠ .assembling) : t.ctrl.assembled = s.ctrl.assembled := by
  have hflag := SettlesFrom.assembled_eq h
  rw [hloses, State.completesAssembly_eq_false hst hloses] at hflag
  simpa using hflag

/-- The part with its contact record set at a confirmation of contact (R14, R43). -/
def State.contactSet (s : State) : State :=
  { s with ctrl := { s.ctrl with contact := some s.meas.latchedStroke, state := .holding } }

/-- The part with its contact record discarded at a confirmation of release (R14, R44). -/
def State.contactDropped (s : State) : State :=
  { s with ctrl := { s.ctrl with contact := none, state := .ready } }

theorem State.contactSet_losesAssembly (s : State) : s.contactSet.losesAssembly = false := by
  simp [State.losesAssembly, State.contactSet]

theorem State.contactDropped_losesAssembly {s : State} (h : s.assemblyHolds = true) :
    s.contactDropped.losesAssembly = false := State.losesAssembly_of_holds (s := s.contactDropped) h

/-! ## A confirmation, with the measurement unit of its sample -/

section Confirm

variable {s : State} {now : Time} {m : Measurement}

/-- Contact confirmed: HOLDING with its record, and on by the tables (R14, R22, R43). -/
theorem State.confirmsContact (hst : s.ctrl.state = .seating) (hstroke : m.stroke = s.meas.stroke)
    (hlatched : m.latchedStroke = s.meas.latchedStroke) :
    let t := State.contactConfirmed { s with now := now, meas := m }
    HandsOn s t ∧ t.peers = s.peers ∧ t.ctrl.state ≠ .jog
      ∧ SettlesFrom s.contactSet t := by
  generalize hx : ({ s with
    now := now, meas := m, ctrl := { s.ctrl with contact := some m.latchedStroke, state := .holding } } : State) = x
  have hxstate : x.ctrl.state = .holding := by rw [← hx]
  have heq : State.contactConfirmed { s with now := now, meas := m } = x.settleFrom .seating := by rw [← hx]; rfl
  have hhands : HandsFrom { s with now := now, meas := m } x := by
    rw [← hx]
    exact ⟨rfl, rfl, rfl, rfl, rfl, rfl, .inr ⟨rfl, nofun⟩⟩
  have hon := hhands.handsOn
  have hrests := x.settleFrom_state .seating
  rw [State.restsIn_of_holding hxstate] at hrests
  have hsettles := x.settlesFrom_settleFrom .seating
  have hloses : x.losesAssembly = false := by simp [State.losesAssembly, hxstate]
  have hcompletes : x.completesAssembly = false := State.completesAssembly_eq_false (by simp [hxstate]) hloses
  rw [show ({ s with now := now, meas := m } : State).ctrl.state = .seating from hst] at hon
  dsimp only
  rw [heq]
  refine ⟨hon.withMeas ?_ (by rw [hst]; rfl), ?_, ?_, ?_⟩
  · rw [hst, hrests]
    exact GroupCommand.leadsTo_ne_seating _ _ _
  · rw [State.settleFrom_peers_of_kept _ hcompletes hloses, ← hx]
  · rw [State.settleFrom_state, Ne, State.restsIn_jog_iff, hxstate]
    exact nofun
  · rw [← hx] at hsettles ⊢
    refine hsettles.withMeas ?_ hstroke.symm rfl rfl rfl
    rw [hlatched]
    rfl

/-- Release confirmed: READY without the record, and on by the tables (R14, R27, R44). -/
theorem State.confirmsRelease (hst : s.ctrl.state = .unseating) :
    let t := State.releaseConfirmed { s with now := now, meas := m }
    HandsOn s t ∧ t.ctrl.state ≠ .jog
      ∧ (s.assemblyHolds = true → t.peers = s.peers)
      ∧ SettlesFrom s.contactDropped t := by
  generalize hx : ({ s with
    now := now, meas := m, ctrl := { s.ctrl with contact := none, state := .ready } } : State) = x
  have hxstate : x.ctrl.state = .ready := by rw [← hx]
  have heq : State.releaseConfirmed { s with now := now, meas := m } = x.settleFrom .unseating := by
    rw [State.releaseConfirmed_eq, ← hx]
  have hhands : HandsFrom { s with now := now, meas := m } x := by
    rw [← hx]
    exact ⟨rfl, rfl, rfl, rfl, rfl, rfl, .inr ⟨rfl, nofun⟩⟩
  have hon := hhands.handsOn
  have hsettles := x.settlesFrom_settleFrom .unseating
  rw [show ({ s with now := now, meas := m } : State).ctrl.state = .unseating from hst] at hon
  dsimp only
  rw [heq]
  refine ⟨hon.withMeas ?_ (by rw [hst]; rfl), ?_, fun hholds => ?_, ?_⟩
  · rw [hst, State.settleFrom_state]
    exact State.restsIn_of_ready_ne hxstate
  · rw [State.settleFrom_state, Ne, State.restsIn_jog_iff, hxstate]
    exact nofun
  · have hloses : x.losesAssembly = false := by
      rw [State.losesAssembly, show x.assemblyHolds = s.assemblyHolds by rw [← hx]; rfl, hholds]
      rfl
    rw [State.settleFrom_peers_of_kept _ (State.completesAssembly_eq_false (by simp [hxstate]) hloses) hloses, ← hx]
  · rw [← hx] at hsettles ⊢
    exact hsettles

/-- Contact confirmed under RAISE: LIFTING where the members are poised, the tables standing (R22, R23). -/
theorem State.confirmsContact_raised (hst : s.ctrl.state = .seating) (hstroke : m.stroke = s.meas.stroke)
    (hlatched : m.latchedStroke = s.meas.latchedStroke) (hraise : s.command = .raise) :
    let t := State.contactConfirmed { s with now := now, meas := m }
    t.ctrl.contact = some s.meas.latchedStroke
      ∧ t.ctrl.state = (if s.membersPoised then .lifting else .holding)
      ∧ t.meas.contact.running = false ∧ t.meas.unseat = { value := 5, running := true }
      ∧ t.ctrl.assembled = s.ctrl.assembled ∧ t.peers = s.peers ∧ t.request = s.request := by
  obtain ⟨hon, hpeers, -, hsettles⟩ := State.confirmsContact (now := now) hst hstroke hlatched
  generalize State.contactConfirmed { s with now := now, meas := m } = t at *
  have hstate := hsettles.state_eq
  rw [State.restsIn_of_holding rfl, show s.contactSet.command = .raise from hraise] at hstate
  have hseated : t.ctrl.state.isSeated = true := by
    rw [hstate, GroupCommand.leadsTo]
    split <;> rfl
  have hne : t.ctrl.state ≠ .seating := fun he => by rw [he] at hseated; cases hseated
  obtain ⟨-, -, hcounter, -, hunseat⟩ := hon.2 (by rw [hst]; exact hne)
  rw [if_neg hne] at hcounter
  rw [if_pos hseated, hst] at hunseat
  have hloses := s.contactSet_losesAssembly
  exact ⟨congrArg Controller.contact hsettles.1, hstate, hcounter, hunseat,
    SettlesFrom.assembled_kept (s := s.contactSet) hsettles hloses nofun, hpeers, hsettles.request_kept hloses⟩

/-- Release confirmed under no RAISE: READY where the assembly holds, else ASSEMBLING (R27). -/
theorem State.confirmsRelease_tested (hst : s.ctrl.state = .unseating) (hcommand : s.command ≠ .raise) :
    let t := State.releaseConfirmed { s with now := now, meas := m }
    t.ctrl.contact = none ∧ t.meas.release.running = false
      ∧ (s.assemblyHolds = true → t.ctrl.state = .ready ∧ t.ctrl.assembled = s.ctrl.assembled
          ∧ t.peers = s.peers ∧ t.request = s.request)
      ∧ (s.assemblyHolds = false → s.groupAssembled = false → t.ctrl.state = .assembling
          ∧ t.ctrl.assembled = false ∧ t.peers.memberCount = 0) := by
  obtain ⟨hon, -, hkept, hsettles⟩ := State.confirmsRelease (now := now) (m := m) hst
  generalize State.releaseConfirmed { s with now := now, meas := m } = t at *
  have hstate := hsettles.state_eq
  have hne : t.ctrl.state ≠ .unseating := by
    rw [hstate]
    exact State.restsIn_of_ready_ne rfl
  obtain ⟨-, -, -, hcounter, -⟩ := hon.2 (by rw [hst]; exact hne)
  rw [if_neg hne] at hcounter
  refine ⟨congrArg Controller.contact hsettles.1, hcounter, fun hholds => ?_, fun hfails hgroup => ?_⟩
  · have hloses := State.contactDropped_losesAssembly hholds
    refine ⟨hstate.trans ?_, SettlesFrom.assembled_kept (s := s.contactDropped) hsettles hloses nofun, hkept hholds,
      hsettles.request_kept hloses⟩
    rw [State.restsIn, show s.contactDropped.ctrl.state = .ready from rfl]
    dsimp only
    rw [hloses, if_neg Bool.false_ne_true]
    exact if_neg hcommand
  · obtain ⟨hassembling, hassembled, -, -, -, hentries, -⟩ := hsettles.entersAssembling rfl hfails
    have hgroup' : s.contactDropped.groupAssembled = false := hgroup
    rw [hgroup'] at hassembling hassembled hentries
    exact ⟨hassembling, hassembled, by simp [PeerTable.memberCount, hentries]⟩

end Confirm

/-! ## A good sample that raises no cause -/

section Calm

variable {x : State} {raw load : Nat}

/-- The sample that completes the contact counter in SEATING confirms contact. -/
theorem State.takeSample_setsContact
    (hcalm : x.takeSample raw = (x.measured load).confirm.jogClampAtOnce x.meas.load) (hst : x.ctrl.state = .seating)
    (hdone : (x.goodSample load).contact.done = true) : x.takeSample raw = (x.measured load).contactConfirmed := by
  have hconfirm : (x.measured load).confirm = (x.measured load).contactConfirmed := if_pos ⟨hst, hdone⟩
  rw [hcalm, hconfirm, State.jogClampAtOnce_of_ne]
  exact (State.confirmsContact (s := x) (now := x.now) (m := x.goodSample load) hst rfl rfl).2.2.1

/-- The sample that completes the release counter in UNSEATING confirms release. -/
theorem State.takeSample_dropsContact
    (hcalm : x.takeSample raw = (x.measured load).confirm.jogClampAtOnce x.meas.load) (hst : x.ctrl.state = .unseating)
    (hdone : (x.goodSample load).release.done = true) : x.takeSample raw = (x.measured load).releaseConfirmed := by
  have hconfirm : (x.measured load).confirm = (x.measured load).releaseConfirmed := by
    rw [State.confirm, if_neg, if_pos ⟨hst, hdone⟩]
    rintro ⟨hseating, -⟩
    cases hst.symm.trans hseating
  rw [hcalm, hconfirm, State.jogClampAtOnce_of_ne]
  exact (State.confirmsRelease (s := x) (now := x.now) (m := x.goodSample load) hst).2.1

/-- Another sample in SEATING steps the counters alone. -/
theorem State.takeSample_keepsSeating
    (hcalm : x.takeSample raw = (x.measured load).confirm.jogClampAtOnce x.meas.load) (hst : x.ctrl.state = .seating)
    (hdone : (x.goodSample load).contact.done = false) : x.takeSample raw = x.measured load := by
  have hstays : (x.measured load).confirm = x.measured load :=
    State.confirm_of_none (fun _ => hdone) fun hun => by cases hst.symm.trans hun
  rw [hcalm, hstays, State.jogClampAtOnce_of_ne]
  rw [show (x.measured load).ctrl.state = .seating from hst]
  exact nofun

end Calm

/-- What a configuration in force gives the scaling and the overload test (R188). -/
theorem StartUnit.inForce_of_config {u : StartUnit} {o : Options} (h : u.config = some o) :
    u.zeroInForce = o.zero ∧ u.fullScaleInForce = o.fullScale ∧ u.overloadLimitInForce = o.overloadLimit := by
  rw [StartUnit.zeroInForce, StartUnit.fullScaleInForce, StartUnit.overloadLimitInForce, h]
  exact ⟨rfl, rfl, rfl⟩

/-- Settles O27: the counter's test at each sample, and its fifth, which confirms and settles the part. -/
theorem confirmationsSetAndDropTheContactRecord : Obligations.ConfirmationsSetAndDropTheContactRecord := by
  intro s due reply o hrun hdue hconfig hmark hready hnone
  have hexec := execConverterReadEnd_eq reply hrun hdue
  rw [if_pos ⟨hmark, hready⟩] at hexec
  obtain ⟨hzero, hscale, hlimit⟩ := StartUnit.inForce_of_config (u := (s.readEnded due).start) hconfig
  have hcalm := State.takeSample_quiet (s := s.readEnded due) (raw := reply.toNat / 4 % 4096)
  rw [hzero, hscale] at hcalm
  refine ⟨_, hexec, ?_⟩
  intro load
  change (s.readEnded due).sampleCauses load = [] → (s.readEnded due).takeSample (reply.toNat / 4 % 4096)
    = ((s.readEnded due).measured load).confirm.jogClampAtOnce (s.readEnded due).meas.load at hcalm
  change ¬(o.overloadLimit ≤ load ∧ s.meas.overload = false ∧ 2 ≤ s.meas.overloadCount) at hnone
  have hover : ¬((s.readEnded due).start.overloadLimitInForce ≤ load ∧ (s.readEnded due).meas.overload = false
      ∧ 2 ≤ (s.readEnded due).meas.overloadCount) := by
    rw [hlimit]
    exact hnone
  have hstroke : ((s.readEnded due).goodSample load).stroke = s.meas.stroke := rfl
  have hlatched : ((s.readEnded due).goodSample load).latchedStroke = s.meas.latchedStroke := rfl
  have hcontact : ((s.readEnded due).goodSample load).contact = s.meas.contact.step (decide (o.contactThreshold ≤ load)) := by
    show s.meas.contact.step (s.start.atContact load) = _
    rw [StartUnit.atContact_eq, hconfig]
    rfl
  have hrelease : ((s.readEnded due).goodSample load).release = s.meas.release.step (decide (load < o.releaseThreshold)) := by
    show s.meas.release.step (s.start.belowRelease load) = _
    rw [StartUnit.belowRelease_eq, hconfig]
    rfl
  have hcauses : s.meas.unseat.running = false → (s.readEnded due).sampleCauses load = [] := fun hstopped =>
    State.sampleCauses_eq (s.readEnded due) load False False ⟨False.elim, hover⟩ ⟨False.elim, fun hdone => by
      obtain ⟨hruns, -⟩ := (Counter.step_done_iff _ _).1 hdone
      cases hstopped.symm.trans hruns⟩
  have hset := State.takeSample_setsContact (x := s.readEnded due) (raw := reply.toNat / 4 % 4096) (load := load)
  have hdropped := State.takeSample_dropsContact (x := s.readEnded due) (raw := reply.toNat / 4 % 4096) (load := load)
  have hpending := State.takeSample_keepsSeating (x := s.readEnded due) (raw := reply.toNat / 4 % 4096) (load := load)
  generalize (s.readEnded due).takeSample (reply.toNat / 4 % 4096) = t at *
  have hy : (s.readEnded due).measured load
      = { s with now := max s.now due, meas := (s.readEnded due).goodSample load } := rfl
  rw [hy] at hset hdropped hpending hcalm
  generalize (s.readEnded due).goodSample load = m at *
  have hsetDone (hruns : s.meas.contact.running = true) (hlast : s.meas.contact.value = 1)
      (hheavy : o.contactThreshold ≤ load) : m.contact.done = true := by
    rw [hcontact]
    exact (Counter.step_done_iff _ _).2 ⟨hruns, decide_eq_true hheavy, by omega⟩
  have hdroppedDone (hruns : s.meas.release.running = true) (hlast : s.meas.release.value = 1)
      (hlight : load < o.releaseThreshold) : m.release.done = true := by
    rw [hrelease]
    exact (Counter.step_done_iff _ _).2 ⟨hruns, decide_eq_true hlight, by omega⟩
  refine ⟨fun hst hruns hlast hstopped hheavy => ?_, fun hst hruns hlast hstopped hlight => ?_,
    fun hst hraise hruns hstopped hheavy => ⟨fun hlast => ?_, fun hmore => ?_⟩, fun hst hruns hstopped hlight => ?_,
    fun hst hcommand hruns hstopped hlast hlight => ?_⟩
  · rw [hset (hcalm (hcauses hstopped)) hst (hsetDone hruns hlast hheavy)]
    obtain ⟨hon, -, -, hsettles⟩ := State.confirmsContact (now := max s.now due) hst hstroke hlatched
    exact ⟨hon, hsettles⟩
  · rw [hdropped (hcalm (hcauses hstopped)) hst (hdroppedDone hruns hlast hlight)]
    obtain ⟨hon, -, -, hsettles⟩ := State.confirmsRelease (now := max s.now due) (m := m) hst
    exact ⟨hon, hsettles⟩
  · rw [hset (hcalm (hcauses hstopped)) hst (hsetDone hruns hlast hheavy)]
    exact State.confirmsContact_raised hst hstroke hlatched hraise
  · have hdone : m.contact.done = false := by
      rw [hcontact, Bool.eq_false_iff]
      intro hd
      obtain ⟨-, -, hlast⟩ := (Counter.step_done_iff _ _).1 hd
      omega
    rw [hpending (hcalm (hcauses hstopped)) hst hdone]
    refine ⟨rfl, hcontact.trans ?_⟩
    rw [Counter.step, if_pos hruns, decide_eq_true hheavy, if_pos rfl, ← hruns]
  · have hdone : m.contact.done = false := by
      rw [hcontact, decide_eq_false (by omega), Bool.eq_false_iff]
      intro hd
      obtain ⟨-, hno, -⟩ := (Counter.step_done_iff _ _).1 hd
      cases hno
    rw [hpending (hcalm (hcauses hstopped)) hst hdone]
    refine ⟨rfl, hcontact.trans ?_⟩
    rw [Counter.step, if_pos hruns, decide_eq_false (by omega), if_neg Bool.false_ne_true, ← hruns]
  · rw [hdropped (hcalm (hcauses hstopped)) hst (hdroppedDone hruns hlast hlight)]
    exact State.confirmsRelease_tested hst hcommand

end Sys2Proof.Machine
end

section
/-! The end of the option read: the entry to ASSEMBLING, or to CONFIG_FAULT. -/

namespace Sys2Proof.Machine

/-! ## A start settled -/

theorem validStation_iff (n : Nat) : validStation n = true ↔ 1 ≤ n ∧ n ≤ 24 := by
  rw [validStation, decide_eq_true_eq]

/-- The part at the end of the option read, before it is judged (R191). -/
def State.optionsRead (s : State) (due : Time) : State :=
  { s.tick due with start := { s.start with optionRead := none } }

theorem execOptionReadEnd_eq {s : State} {due : Time} {data : BitVec 280} (hrun : s.start.resetHeld = false)
    (hdue : s.start.optionRead = some due) (hst : s.ctrl.state = .start) :
    execOptionReadEnd data s = .next ((s.optionsRead due).judgeStart (blockOf data)) := by
  rw [execOptionReadEnd, State.onTimer_eq hrun hdue]
  exact congrArg Host.Outcome.next (if_pos hst)

/-- Settled in a state that does not move, other than the old one, the commanded output is 0 (R98). -/
theorem State.settleFrom_commanded_zero {x : State} {old : StationState} (hne : x.restsIn ≠ old)
    (hmoving : x.restsIn.isMoving = false) : (x.settleFrom old).engine.commanded = 0 := by
  rw [State.settleFrom_engine, if_neg hne, StartUnit.ceiling_of_not_moving _ hmoving]
  have := (x.engine.stateChange_commanded_le 0 (x.restsIn.motion x.ctrl.jogDirection)).2
  omega

/-- What settling in a state in which no assembly is completed or lost leaves. -/
theorem State.settleFrom_of_kept {x : State} (old : StationState) (hcompletes : x.completesAssembly = false)
    (hloses : x.losesAssembly = false) :
    (x.settleFrom old).peers = x.peers ∧ (x.settleFrom old).request = x.request
      ∧ (x.settleFrom old).ctrl.assembled = x.ctrl.assembled ∧ (x.settleFrom old).ctrl.fresh = x.ctrl.fresh
      ∧ (x.settleFrom old).ctrl.contact = x.ctrl.contact := by
  have hsettles := x.settlesFrom_settleFrom old
  refine ⟨State.settleFrom_peers_of_kept old hcompletes hloses, SettlesFrom.request_kept hsettles hloses, ?_, ?_,
    State.settleFrom_contact x old⟩
  all_goals rw [hsettles.1]
  · simp [hcompletes, hloses]
  · simp [hcompletes]

/-! ## CONFIG_FAULT -/

/-- The entry to CONFIG_FAULT sets the brake and takes the output (R149). -/
theorem Drive.stateChange_configFault (d : Drive) (now rt : Time) (x : Int) (old : StationState) :
    d.stateChange now rt x old .configFault = d.setBrake := by
  simp [Drive.stateChange]

theorem State.judgeStart_invalid {x : State} {block : List Byte} {n : Nat} (hstraps : x.start.strapReading = some n)
    (hinvalid : ¬(1 ≤ n ∧ n ≤ 24) ∨ readOptions block = none) :
    x.judgeStart block = x.enterConfigFault (if 1 ≤ n ∧ n ≤ 24 then some n else none) := by
  unfold State.judgeStart
  rw [hstraps]
  by_cases hn : 1 ≤ n ∧ n ≤ 24
  · rw [Option.filter_some_pos ((validStation_iff n).2 hn), if_pos hn, hinvalid.resolve_left (not_not_intro hn)]
  · rw [Option.filter_some_neg (Bool.eq_false_iff.2 (mt (validStation_iff n).1 hn)), if_neg hn]

/-- Settles O20: CONFIG_FAULT, with the report timer started where the station number is valid. -/
theorem invalidStartEntersConfigFault : Obligations.InvalidStartEntersConfigFault := by
  intro s due data n hrun hdue hst hstraps _hconfig hinvalid
  have hexec := execOptionReadEnd_eq (data := data) hrun hdue hst
  rw [State.judgeStart_invalid (x := s.optionsRead due) hstraps hinvalid] at hexec
  generalize hx : (State.withState { s.optionsRead due with
    start := { (s.optionsRead due).start with stationNumber := if 1 ≤ n ∧ n ≤ 24 then some n else none }
    bus := if (if 1 ≤ n ∧ n ≤ 24 then some n else none : Option Nat).isSome
      then s.bus.restartTimer (max s.now due) .slow else s.bus } .configFault) = x
  have hsettled : (s.optionsRead due).enterConfigFault (if 1 ≤ n ∧ n ≤ 24 then some n else none)
      = x.settleFrom .start := by
    rw [← hx]
    rfl
  rw [hsettled] at hexec
  have hxst : x.ctrl.state = .configFault := by rw [← hx]; rfl
  have hrests : x.restsIn = .configFault := by rw [State.restsIn_of_resting (by rw [hxst]; rfl), hxst]
  have hloses : x.losesAssembly = false := by simp [State.losesAssembly, hxst]
  have hcompletes : x.completesAssembly = false := State.completesAssembly_eq_false (by simp [hxst]) hloses
  obtain ⟨hpeers, hrequest, hassembled, hfresh, hcontact⟩ := State.settleFrom_of_kept .start hcompletes hloses
  have hbus := x.settleFrom_bus .start
  have hdrive := x.settleFrom_drive .start
  have hhalt := x.settleFrom_halt_eq .start
  have hlamp := congrArg Controller.readyLamp (x.settlesFrom_settleFrom .start).1
  have hstate := x.settleFrom_state .start
  rw [hrests] at hbus hdrive hhalt hstate
  rw [if_neg (by simp [asksPrompt])] at hbus
  rw [if_neg (by simp), Drive.stateChange_configFault] at hdrive
  obtain ⟨-, -, -, -, -, hcreep, -⟩ := x.drive.handOver_spec x.start.dMin x.meas.stroke
    (x.settleFrom .start).engine.commanded (x.settleFrom .start).engine.direction
  have hcommanded : (x.settleFrom .start).engine.commanded = 0 :=
    State.settleFrom_commanded_zero (by rw [hrests]; simp) (by rw [hrests]; rfl)
  refine ⟨_, hexec, (x.settleFrom_now _).trans (by rw [← hx]; rfl), hstate, (x.settleFrom_start _).trans ?start,
    hbus.trans ?bus, by rw [hdrive]; rfl, by rw [hdrive]; rfl, by rw [hdrive]; rfl, by rw [hdrive]; rfl, ?creep, hcommanded,
    hhalt.trans (by rw [← hx]; rfl), hlamp.trans ?lamp, hpeers.trans (by rw [← hx]; rfl), hrequest.trans (by rw [← hx]; rfl),
    hcontact.trans (by rw [← hx]; rfl), hfresh.trans (by rw [← hx]; rfl)⟩
  case start => rw [← hx]; rfl
  case bus =>
    rw [x.settleFrom_now, ← hx]
    by_cases hn : 1 ≤ n ∧ n ≤ 24
    · simp only [if_pos hn]
      rfl
    · simp only [if_neg hn]
      rfl
  case creep =>
    rw [hdrive]
    exact hcreep.trans (by rw [← hx]; rfl)
  case lamp =>
    rw [hassembled, hstate, ← hx]
    exact Bool.and_true _

/-! ## The entry to ASSEMBLING -/

/-- The level causes of a judgement, in the order of their codes (R113). -/
theorem filter_levelCauses (p : Cause → Bool) :
    levelCauses.filter p = (if p .estop then [.estop] else []) ++ (if p .overtravel then [.overtravel] else [])
      ++ (if p .overload then [.overload] else []) ++ (if p .sensor then [.sensor] else [])
      ++ (if p .supplyLow then [.supplyLow] else []) := by
  simp only [levelCauses, List.filter_cons, List.filter_nil]
  generalize p .estop = a, p .overtravel = b, p .overload = c, p .sensor = d, p .supplyLow = e
  revert a b c d e
  decide

/-- The level causes of a judgement are a cause set as they stand (R108). -/
theorem insertAll_filter_levelCauses (p : Cause → Bool) :
    Cause.insertAll (levelCauses.filter p) [] = levelCauses.filter p := by
  rw [filter_levelCauses]
  generalize p .estop = a, p .overtravel = b, p .overload = c, p .sensor = d, p .supplyLow = e
  revert a b c d e
  decide

theorem Table.map_unmark_empty {t : Vector Entry 24} (h : ∀ e ∈ t.toList, e = Entry.empty) :
    Table.map Entry.unmark t = t := by
  refine Vector.toList_inj.1 ?_
  rw [Table.toList_map]
  refine (List.map_congr_left fun e he => ?_).trans (List.map_id _)
  rw [h e he]
  rfl

/-- With every entry EMPTY no group of 2 or more stations is assembled (R10, R191). -/
theorem State.groupAssembled_of_empty {x : State} {o : Options} (hconfig : x.start.config = some o) (hn : 2 ≤ o.n)
    (h : ∀ e ∈ x.peers.entries.toList, e = Entry.empty) : x.groupAssembled = false := by
  have hnone : x.eligibleCount = 0 := by
    rw [State.eligibleCount, List.countP_eq_zero]
    intro e he
    rw [h e he]
    exact Bool.false_ne_true
  rw [State.groupAssembled, hconfig]
  dsimp only
  rw [hnone, decide_eq_false (by omega), Bool.and_false]

/-- The report timer stands through a prompt report asked for at no entry to PARKED and no leaving of it (R177). -/
theorem Bus.askPrompt_reportTimer (b : Bus) (now : Time) (p : PeriodClass) :
    (b.askPrompt now p false).reportTimer = b.reportTimer := by
  by_cases hu : b.underAttempt .report = true
  · rw [Bus.askPrompt, if_pos hu]
  · rw [Bus.askPrompt_judged (Bool.eq_false_iff.2 hu)]
    dsimp only
    rw [if_neg (not_and_of_not_left _ Bool.false_ne_true)]

/-- The part at the entry to ASSEMBLING from START, before it settles (R192). -/
def State.startedWith (x : State) (n : Nat) (o : Options) (digest : Word16) : State :=
  State.enterAssembling { x with
    start := { x.start with stationNumber := some n, config := some o, digest := some digest }
    drive := { x.drive with creepReference := x.meas.stroke }
    bus := x.bus.restartTimer x.now .fast }

theorem State.judgeStart_valid {x : State} {block : List Byte} {n : Nat} {o : Options}
    (hstraps : x.start.strapReading = some n) (hn : 1 ≤ n ∧ n ≤ 24) (ho : readOptions block = some o) :
    x.judgeStart block = ((x.startedWith n o (blockDigest block)).settleFrom .start).takeCauses (levelCauses.filter
      ((x.startedWith n o (blockDigest block)).settleFrom .start).conditionPresent) := by
  unfold State.judgeStart
  rw [hstraps, Option.filter_some_pos ((validStation_iff n).2 hn), ho]
  rfl

/-- Settled in ASSEMBLING from START, with no group assembled. -/
theorem State.settleFrom_start_assembling {x : State} (hst : x.ctrl.state = .assembling)
    (hgroup : x.groupAssembled = false) :
    let t := x.settleFrom .start
    t.ctrl.state = .assembling ∧ t.ctrl.assembled = x.ctrl.assembled ∧ t.ctrl.fresh = x.ctrl.fresh
      ∧ t.ctrl.contact = x.ctrl.contact ∧ t.peers = x.peers ∧ t.request = x.request ∧ t.bus = x.bus
      ∧ t.drive.creepReference = x.drive.creepReference ∧ t.engine.commanded = 0
      ∧ t.halt.causes = x.halt.causes ∧ t.halt.first = x.halt.first
      ∧ t.meas = { x.meas with contact := t.meas.contact, release := t.meas.release, unseat := t.meas.unseat } := by
  have hloses : x.losesAssembly = false := by simp [State.losesAssembly, hst]
  have hcompletes : x.completesAssembly = false := by simp [State.completesAssembly, hgroup]
  have hrests : x.restsIn = .assembling := by simp [State.restsIn, hst, hcompletes]
  obtain ⟨hpeers, hrequest, hassembled, hfresh, hcontact⟩ := State.settleFrom_of_kept .start hcompletes hloses
  obtain ⟨hcauses, hfirst, -⟩ := x.settleFrom_halt .start
  have hbus := x.settleFrom_bus .start
  have hdrive := x.settleFrom_drive .start
  have hmeas := x.settleFrom_meas .start
  rw [hrests] at hbus hdrive hmeas
  rw [if_neg (by simp [asksPrompt])] at hbus
  rw [if_neg (by simp)] at hdrive hmeas
  obtain ⟨-, -, -, -, -, hcreep, -⟩ := x.drive.handOver_spec x.start.dMin x.meas.stroke
    (x.settleFrom .start).engine.commanded (x.settleFrom .start).engine.direction
  refine ⟨(x.settleFrom_state _).trans hrests, hassembled, hfresh, hcontact, hpeers, hrequest, hbus, ?_,
    State.settleFrom_commanded_zero (by rw [hrests]; simp) (by rw [hrests]; rfl), hcauses, hfirst, ?_⟩
  · rw [hdrive]
    exact hcreep
  · rw [hmeas]
    rfl

/-- What the level causes of a start do to a station that has entered ASSEMBLING. -/
theorem State.started_takeCauses {y : State} {present : List Cause} (hst : y.ctrl.state = .assembling)
    (hset : Cause.insertAll present [] = present) :
    let t := y.takeCauses present
    t.ctrl.fresh = y.ctrl.fresh ∧ t.bus.reportTimer = y.bus.reportTimer
      ∧ (present = [] → t = y)
      ∧ (present ≠ [] → t.ctrl.state = .halted ∧ t.halt.causes = Cause.insertAll present y.halt.causes
          ∧ t.halt.first = present.head?.map (fun c => { cause := c, origin := y.originOf c 0 })
          ∧ t.drive.brake = .set ∧ t.drive.creepReference = y.meas.stroke ∧ t.engine.commanded = 0
          ∧ (y.bus.promptSpent = false → y.bus.attempt = none → y.bus.isEmpty = true →
              t.bus.report = some { prompt := true, entered := y.now, attempts := 0 })) := by
  by_cases hnil : present = []
  · rw [hnil]
    exact ⟨rfl, rfl, fun _ => rfl, fun hne => absurd rfl hne⟩
  obtain ⟨first, rest, hcons⟩ := List.exists_cons_of_ne_nil hnil
  rw [hcons] at hset
  obtain ⟨-, -, henters, -⟩ := (HaltsAs.refl y).takesCauses hset 0
  obtain ⟨hhalted, hcauses, hfirst, -, -, hfresh, -, -, hbrake, -, hcommanded, -, hcreep, -⟩ :=
    henters (by rw [hst]; rfl) (by rw [hst]; exact nofun)
  have hbus := y.takeCauses_bus (causes := first :: rest) (List.cons_ne_nil _ _) 0
  rw [if_pos (by rw [hst]; exact ⟨rfl, nofun⟩), hst] at hbus
  have hstroke := congrArg Measurement.stroke (y.takeCauses_meas (first :: rest) 0)
  rw [hcons]
  refine ⟨hfresh, (congrArg Bus.reportTimer hbus).trans (Bus.askPrompt_reportTimer _ _ _), nofun, fun _ =>
    ⟨hhalted, hcauses, hfirst, hbrake, hcreep.trans hstroke, hcommanded, fun hspent hattempt hempty => ?_⟩⟩
  have hreport : y.bus.report = none := by
    simp only [Bus.isEmpty, Bool.and_eq_true, Option.isNone_iff_eq_none] at hempty
    exact hempty.1.1
  rw [hbus, Bus.askPrompt_judged (by simp [Bus.underAttempt, hattempt]), hspent, hreport]
  rfl

/-- Settles O19: ASSEMBLING as one change, then the level causes that stand as one event. -/
theorem validStartEntersAssembling : Obligations.ValidStartEntersAssembling := by
  intro s due data n o hrun hdue hst hstraps hn ho hempty hhalt
  have hexec := execOptionReadEnd_eq (data := data) hrun hdue hst
  rw [State.judgeStart_valid (x := s.optionsRead due) hstraps hn ho] at hexec
  have hrange : 2 ≤ o.n := by
    obtain ⟨-, -, hinRange⟩ := (readOptions_iff _ _).1 ho
    obtain ⟨⟨hleast, -⟩, -⟩ := o.inRange_iff.1 hinRange
    exact hleast
  have hentries : ∀ e ∈ s.peers.entries.toList, e = Entry.empty := hempty.1 (by rw [hst]; rfl)
  generalize hx : (s.optionsRead due).startedWith n o (blockDigest (blockOf data)) = x at hexec
  have hxpeers : x.peers = s.peers := by
    rw [← hx]
    exact congrArg (fun t => { s.peers with entries := t }) (Table.map_unmark_empty hentries)
  have hgroup : x.groupAssembled = false :=
    State.groupAssembled_of_empty (o := o) (by rw [← hx]; rfl) hrange (by rw [hxpeers]; exact hentries)
  have hsettled := State.settleFrom_start_assembling (x := x) (by rw [← hx]; rfl) hgroup
  have hnow := x.settleFrom_now .start
  have hstart := x.settleFrom_start .start
  generalize x.settleFrom .start = y at *
  obtain ⟨hstate, hassembled, hfresh, hcontact, hpeers, hrequest, hbus, hcreep, hcommanded, hcauses, hfirst, hmeas⟩ := hsettled
  have hpresent : levelCauses.filter y.conditionPresent
      = (if s.request.estopCondition then [Cause.estop] else []) ++ (if s.meas.overtravel then [.overtravel] else [])
        ++ (if s.meas.overload then [.overload] else []) ++ (if s.meas.silent then [.sensor] else [])
        ++ (if s.start.supplyLow && o.policy == .halt then [.supplyLow] else []) := by
    have hestop : y.conditionPresent .estop = s.request.estopCondition := by
      show y.request.estopCondition = _
      rw [hrequest, ← hx]
      rfl
    have hovertravel : y.conditionPresent .overtravel = s.meas.overtravel := by
      show y.meas.overtravel = _
      rw [hmeas, ← hx]
      rfl
    have hoverload : y.conditionPresent .overload = s.meas.overload := by
      show y.meas.overload = _
      rw [hmeas, ← hx]
      rfl
    have hsensor : y.conditionPresent .sensor = s.meas.silent := by
      show y.meas.silent = _
      rw [hmeas, ← hx]
      rfl
    have hsupply : y.conditionPresent .supplyLow = (s.start.supplyLow && o.policy == .halt) := by
      show (y.start.supplyLow && y.start.policyIs .halt) = _
      rw [hstart, ← hx]
      rfl
    rw [filter_levelCauses, hestop, hovertravel, hoverload, hsensor, hsupply]
  have hset := insertAll_filter_levelCauses y.conditionPresent
  rw [hpresent] at hexec hset
  generalize hp : ((if s.request.estopCondition then [Cause.estop] else [])
    ++ (if s.meas.overtravel then [.overtravel] else []) ++ (if s.meas.overload then [.overload] else [])
    ++ (if s.meas.silent then [.sensor] else [])
    ++ (if s.start.supplyLow && o.policy == .halt then [.supplyLow] else []) : List Cause) = present at *
  obtain ⟨htnow, htstart, htpeers, htrequest, -, htassembled, htcontact, -⟩ := y.takeCauses_frame present 0
  have htmeas := y.takeCauses_meas present 0
  have hraised := y.started_takeCauses hstate hset
  generalize y.takeCauses present = t at *
  obtain ⟨htfresh, htimer, hnone, hhalted⟩ := hraised
  have horigin : present.head?.map (fun c => ({ cause := c, origin := y.originOf c 0 } : FirstCause))
      = present.head?.map (fun c => { cause := c, origin := n }) := by
    refine Option.map_congr fun c hc => ?_
    have hlevel : c ∈ levelCauses := List.mem_of_mem_filter (hpresent ▸ List.mem_of_mem_head? hc)
    have hown : y.originOf c 0 = y.ownNumber := if_neg (by rintro rfl; revert hlevel; decide)
    rw [hown, State.ownNumber, hstart, ← hx]
    rfl
  have hclear : y.halt.causes = [] ∧ y.halt.first = none := by
    obtain ⟨hlawFirst, -, hlawCauses, -⟩ := hhalt
    rw [hst] at hlawFirst hlawCauses
    rw [hcauses, hfirst, ← hx]
    exact ⟨List.isEmpty_iff.1 hlawCauses, Option.not_isSome_iff_eq_none.1 (Bool.eq_false_iff.1 hlawFirst)⟩
  have hystroke : y.meas.stroke = s.meas.stroke := by rw [hmeas, ← hx]; rfl
  have hynow : y.now = max s.now due := by rw [hnow, ← hx]; rfl
  have hclock : t.now = max s.now due := htnow.trans hynow
  have hybus : y.bus = (s.bus.restartTimer (max s.now due) .fast) := by rw [hbus, ← hx]; rfl
  have htcreep : t.drive.creepReference = s.meas.stroke ∧ t.engine.commanded = 0 := by
    by_cases hnil : present = []
    · rw [hnone hnil]
      exact ⟨hcreep.trans (by rw [← hx]; rfl), hcommanded⟩
    · obtain ⟨-, -, -, -, hreference, hoff, -⟩ := hhalted hnil
      exact ⟨hreference.trans hystroke, hoff⟩
  have htreq : t.request = { s.request with slots := Vector.replicate 24 none, sequence := none } := by
    rw [htrequest, hrequest, ← hx]
    rfl
  refine ⟨t, hexec, htstart.trans (by rw [hstart, ← hx]; rfl), hclock, ?_, ?_, ?_, htcreep.1, htcreep.2,
    htpeers.trans (hpeers.trans hxpeers), ?_, by rw [htreq], by rw [htreq], by rw [htreq], by rw [htreq], ?_, ?_, ?_, ?_, ?_, ?_⟩
  · rw [htassembled, hassembled, ← hx]
    rfl
  · rw [htfresh, hfresh, ← hx]
    rfl
  · rw [htcontact, hcontact, ← hx]
    rfl
  · rw [htreq]
    rfl
  · rw [htimer, hybus, hclock]
    rfl
  · rw [htmeas, hystroke]
  · rw [htmeas, hmeas, ← hx]
    rfl
  · rw [htmeas, hmeas, ← hx]
    rfl
  · rw [htmeas, hmeas, ← hx]
    rfl
  · dsimp only
    rw [← horigin]
    by_cases hnil : present = []
    · rw [hnone hnil, hnil]
      exact ⟨hclear.1, hclear.2, hstate, fun _ => by rw [hybus]; rfl, fun hne => absurd rfl hne⟩
    · obtain ⟨hst', hcauses', hfirst', hbrake, -, -, hreport⟩ := hhalted hnil
      rw [hclear.1, hset] at hcauses'
      refine ⟨hcauses', hfirst', by rw [if_neg hnil]; exact hst', fun h => absurd h hnil, fun _ => ⟨hbrake, ?_⟩⟩
      rw [hclock, ← hynow]
      rw [hybus] at hreport
      exact hreport

end Sys2Proof.Machine
end
